-- ==== Sys2Proof/Word.lean ====
section
/-! DEFINITION. The words of the core: the frame and its fields (30_encoding.md R60, R61), the request and
the response (R80, R85). Widths are fixed by 00_scope.md R5 and R6 and are no parameters. -/

namespace Sys2Proof

/-- FRAME_WIDTH = 64 (R5). -/
abbrev Frame := BitVec 64
/-- PAYLOAD_WIDTH = 56: the frame less its checksum (R61). -/
abbrev Payload := BitVec 56
/-- ADDRESS_WIDTH = 2 (R5). -/
abbrev Addr := BitVec 2
/-- COMMAND_WIDTH = 4 (R5). -/
abbrev Cmd := BitVec 4
/-- PARAMETER_WIDTH = 50 (R5). -/
abbrev Param := BitVec 50
/-- CHECKSUM_WIDTH = 8 (R5). -/
abbrev Csum := BitVec 8
/-- A request as the opcode table packs it, `{C, B, A, OP}` (R80). -/
abbrev ReqWord := BitVec 101

/-- The four fields of a request (R80). -/
structure Request where
  op : BitVec 5
  a  : BitVec 64
  b  : BitVec 16
  c  : BitVec 16
deriving DecidableEq, Repr, Inhabited

/-- The four fields of a response (R85). -/
structure Response where
  status : BitVec 2
  tag    : BitVec 4
  d0     : BitVec 64
  d1     : BitVec 16
deriving DecidableEq, Repr, Inhabited

/-- The two encodings of 30_encoding.md: a packed request, or a frame on the wire. -/
inductive Code where
  | req   (w : ReqWord)
  | frame (f : Frame)
deriving DecidableEq, Repr

end Sys2Proof
end

