-- ==== Sys2Proof/Config.lean ====
section
/-! DEFINITION. What the spec leaves to a build.

The three open parameters of 00_scope.md R7 are ARGUMENTS of the definitions that could depend on them, as
R7 asks ("A model takes each as an argument"), so that every claim about those holds for every value:
LATENCY is the number of wait bits a run of port cycles holds (`PortCycle.wait`, log 1),
CRC_BITS_PER_STEP is the argument of `Machine.engineCycle`, and WIRE_BYTE_ORDER that of `Machine.toWire`
(log 13). What stands here is the one free value. -/

namespace Sys2Proof

/-- Free value: what the response fields read once their response was taken, at the n-th hand-off
(93_implementation_defined.md I10: `any value` while RSP_VALID = 0). It has no body, so nothing can be
proved of it. Log 5. -/
opaque Config.staleResponse : Nat → Response

end Sys2Proof
end

