-- ==== Sys2Proof/Machine/State.lean ====
section
/-! DEFINITION. The core's state (10_state.md section 1), the port inputs of the host, the outcomes, and
reset (70_reset_and_hazards.md R250). State is plain data. -/

namespace Sys2Proof.Machine

/-- The CRC engine's registers (R22). -/
structure Engine where
  /-- CRC_REG, "the 8-bit running CRC register". -/
  crcReg : BitVec 8
  /-- SRC, "a 64-bit latch for the value being checked". -/
  src : BitVec 64
  /-- IDX, "a 16-bit count of the bits still to process". -/
  idx : BitVec 16
deriving DecidableEq, Repr, Inhabited

/-- What the outside drives in one port cycle (R24, R25, R259), and, in `wait`, whether the core needs a
further cycle for the request it is executing: LATENCY is one more than the number of such cycles (R7,
log 1). -/
structure PortCycle where
  reset    : Bool
  reqValid : Bool
  req      : Request
  rspReady : Bool
  wait     : Bool
deriving DecidableEq, Repr, Inhabited

/-- A cycle in which the host drives nothing. -/
def PortCycle.quiet : PortCycle :=
  { reset := false, reqValid := false, req := { op := 0, a := 0, b := 0, c := 0 }, rspReady := false, wait := false }

/-- The status codes (60_exceptions.md R220). -/
inductive Status where
  | ok
  | rangeError
  | unknownCommand
  | illegalOp
deriving DecidableEq, Repr

/-- The state of the core, and with it the host's inputs still to come and its record of the run. -/
structure State where
  /-- FR, the frame register (R20). -/
  fr : Frame
  /-- CRC_REG, SRC and IDX (R22). -/
  engine : Engine
  /-- BUSY (R25); REQ_READY is its negation (R24). -/
  busy : Bool
  /-- OP, A, B and C as latched at acceptance (R24). -/
  req : Request
  /-- RSP_VALID (R26). -/
  rspValid : Bool
  /-- STATUS, TAG, D0 and D1 (R26). -/
  rsp : Response
  /-- The port cycles to come, the next one first; a quiet host after the last (log 2). Not the core's. -/
  inputs : List PortCycle
  /-- The responses the host took, in order: what a run shows (R260, log 3). Not the core's. -/
  taken : List Response
  /-- How many free values were drawn (log 5). The model's own. -/
  draws : Nat
deriving DecidableEq, Repr

/-- Nothing in the spec stops the core: an error is a response and "Nothing traps" (60_exceptions.md), so
there is no fault. A host that takes no response leaves a state that stays as it is (R256). Safe: no step
of the model stops. Log 15. -/
inductive Fault where
deriving DecidableEq, Repr

/-- Why a step has no meaning. -/
inductive Refusal where
  /-- Raised only by an arm of `exec` whose instruction has no meaning yet; no arm does. Safe: the model
  stops. -/
  | notModelled (mnemonic : String)
deriving DecidableEq, Repr

/-- The machine right after reset (R250). The latched request is 0 (log 4); the inputs are those of a host
that drives nothing (log 2). -/
def State.reset : State :=
  { fr := 0
    engine := { crcReg := 0, src := 0, idx := 0 }
    busy := false
    req := { op := 0, a := 0, b := 0, c := 0 }
    rspValid := false
    rsp := { status := 0, tag := 0, d0 := 0, d1 := 0 }
    inputs := []
    taken := []
    draws := 0 }

end Sys2Proof.Machine
end

