-- ==== Sys2Proof/Machine/Flags.lean ====
section
/-! DEFINITION. The core has no flags and no condition codes (10_state.md R28). What it reports beside data
is the status code (60_exceptions.md R220) and DEC_VERIFY's boolean (44_decoder_ops.md R200). -/

namespace Sys2Proof.Machine

/-- The numbers of the status codes (R220). -/
def statusCode : Status → BitVec 2
  | .ok => 0
  | .rangeError => 1
  | .unknownCommand => 2
  | .illegalOp => 3

/-- A boolean result as D0: `zext_64(ok)`, 1 or 0 (R200, D26). -/
def boolData (b : Bool) : BitVec 64 := if b then 1 else 0

end Sys2Proof.Machine
end

