-- ==== Sys2Proof/Syntax.lean ====
section
/-! DEFINITION. Abstract syntax: one constructor of `Instr` for each of the 48 rows of
spec/opcode_table.json; the parameter variants of 42_param_schema.md R150; and the assembler's symbols and
pseudo-operations (30_encoding.md R90, R91). -/

namespace Sys2Proof

/-- The instructions.

The first 32 are requests. A constructor carries the operands its operation reads (R81, R84) and no other.
Operand A is a natural number, because the rules compare it as one ("if A >= 2^64", "if A >= 4");
`Instr.wf` says which values the 64-bit port can present (log 12).

The last 16 are frames, named by their command field, which carry the three other fields of R60. A frame is
what DEC_PARAMS dispatches on (log 9). -/
inductive Instr where
  -- frame register operations, 41_frame_ops.md R120 to R131
  | frClear
  | frLoad (a : Nat)
  | frSetAddr (a : Nat)
  | frSetCmd (a : Nat)
  | frSetParam (a : Nat)
  | frSetCsum (a : Nat)
  | frGetAddr
  | frGetCmd
  | frGetParam
  | frGetCsum
  | frGetPayload
  | frGetRaw
  -- the CRC engine, 40_crc8_engine.md R104
  | crc8 (v : Nat) (w : BitVec 16)
  -- decoder operations, 44_decoder_ops.md R200, R201
  | decVerify
  | decParams
  -- reserved op code 0x0F, 30_encoding.md R82
  | reserved0F
  -- encoder operations, 43_encoder_ops.md R181 to R191
  | encMove (a : Nat) (distance : BitVec 16)
  | encReverse (a : Nat) (distance : BitVec 16)
  | encTurn (a : Nat) (angle : Int)
  | encStop (a : Nat)
  | encInfo (a : Nat) (flag : BitVec 8)
  | encPing (a : Nat) (id : BitVec 8)
  | encPong (a : Nat) (id : BitVec 8)
  | encError (a : Nat) (errorCode : BitVec 16)
  | encPoll (a : Nat) (pollId : BitVec 8)
  | encResponse (a : Nat) (pollId : BitVec 8) (data : BitVec 16)
  | encCrane (a : Nat) (flag : BitVec 8)
  -- reserved op codes 0x1B to 0x1F, 30_encoding.md R82
  | reserved1B
  | reserved1C
  | reserved1D
  | reserved1E
  | reserved1F
  -- frames with an assigned command code, 42_param_schema.md R162 to R172
  | frameMove (address : Addr) (parameter : Param) (checksum : Csum)
  | frameReverse (address : Addr) (parameter : Param) (checksum : Csum)
  | frameTurn (address : Addr) (parameter : Param) (checksum : Csum)
  | frameStop (address : Addr) (parameter : Param) (checksum : Csum)
  | frameInfo (address : Addr) (parameter : Param) (checksum : Csum)
  | framePing (address : Addr) (parameter : Param) (checksum : Csum)
  | framePong (address : Addr) (parameter : Param) (checksum : Csum)
  | frameError (address : Addr) (parameter : Param) (checksum : Csum)
  | framePoll (address : Addr) (parameter : Param) (checksum : Csum)
  | frameResponse (address : Addr) (parameter : Param) (checksum : Csum)
  | frameCrane (address : Addr) (parameter : Param) (checksum : Csum)
  -- frames with an unassigned command code, 42_param_schema.md R173
  | frameUnassignedB (address : Addr) (parameter : Param) (checksum : Csum)
  | frameUnassignedC (address : Addr) (parameter : Param) (checksum : Csum)
  | frameUnassignedD (address : Addr) (parameter : Param) (checksum : Csum)
  | frameUnassignedE (address : Addr) (parameter : Param) (checksum : Csum)
  | frameUnassignedF (address : Addr) (parameter : Param) (checksum : Csum)
deriving DecidableEq, Repr

/-- A parameter variant, one form for each assigned command code (R150). The signed field is an integer;
`Variant.wf` gives its range. -/
inductive Variant where
  | move (distance : BitVec 16)
  | reverse (distance : BitVec 16)
  | turn (angle : Int)
  | stop
  | info (flag : BitVec 8)
  | ping (id : BitVec 8)
  | pong (id : BitVec 8)
  | error (errorCode : BitVec 16)
  | poll (pollId : BitVec 8)
  | response (pollId : BitVec 8) (data : BitVec 16)
  | crane (flag : BitVec 8)
deriving DecidableEq, Repr

/-- The symbols an assembler must accept (R90). -/
inductive Symbol where
  -- addresses, R65
  | raspberryHat | motionCtrl | gripCtrl
  -- command names, R66
  | move | reverse | turn | stop | info | ping | pong | error | poll | response | crane
  -- InfoFlag, R67
  | battery | temperature
  -- CraneFlag, R68
  | up | down
  -- PollId, R69
  | degree | distance | lineSensor
  -- ErrorCode, R70
  | invalidCrc
deriving DecidableEq, Repr

/-- An assembler operand: a number, which may be signed where the field is, or a symbol (R11, R90). -/
inductive AsmOperand where
  | num (n : Int)
  | sym (x : Symbol)
deriving DecidableEq, Repr

/-- An assembler line: a request of some op code, or a pseudo-operation (R11, R91). An operand left out is
0 (R11). -/
inductive AsmLine where
  | request (op : BitVec 5) (a b c : AsmOperand)
  | encode (a cmd b c : AsmOperand)
  | decAddress
  | decCommand
  | decRawParam
  | decChecksum
  | decWrap (raw : AsmOperand)
  | stamp
deriving DecidableEq, Repr

end Sys2Proof
end

