-- ==== Sys2Proof/WellFormed.lean ====
section
/-! DEFINITION. Which terms of the syntax the port can present. B and C fields have exactly their width by
type (93_implementation_defined.md I13); the two checks left are operand A's 64 bits (I4, I14, D9) and the
signed range of TURN's angle (42_param_schema.md R153). -/

namespace Sys2Proof

/-- A value that fits the 64-bit port field A (R80, D9). -/
def fitsA (a : Nat) : Bool := decide (a < 2 ^ 64)

/-- An s16: "The angle lies in -32768 to 32767" (R153). -/
def fitsS16 (n : Int) : Bool := decide (-32768 ≤ n) && decide (n ≤ 32767)

/-- A variant whose fields lie in their declared domains (R150). -/
def Variant.wf : Variant → Bool
  | .move _ => true
  | .reverse _ => true
  | .turn angle => fitsS16 angle
  | .stop => true
  | .info _ => true
  | .ping _ => true
  | .pong _ => true
  | .error _ => true
  | .poll _ => true
  | .response _ _ => true
  | .crane _ => true

/-- An instruction the hardware can be presented with. -/
def Instr.wf : Instr → Bool
  | .frClear => true
  | .frLoad a => fitsA a
  | .frSetAddr a => fitsA a
  | .frSetCmd a => fitsA a
  | .frSetParam a => fitsA a
  | .frSetCsum a => fitsA a
  | .frGetAddr => true
  | .frGetCmd => true
  | .frGetParam => true
  | .frGetCsum => true
  | .frGetPayload => true
  | .frGetRaw => true
  | .crc8 v _ => fitsA v
  | .decVerify => true
  | .decParams => true
  | .reserved0F => true
  | .encMove a _ => fitsA a
  | .encReverse a _ => fitsA a
  | .encTurn a angle => fitsA a && fitsS16 angle
  | .encStop a => fitsA a
  | .encInfo a _ => fitsA a
  | .encPing a _ => fitsA a
  | .encPong a _ => fitsA a
  | .encError a _ => fitsA a
  | .encPoll a _ => fitsA a
  | .encResponse a _ _ => fitsA a
  | .encCrane a _ => fitsA a
  | .reserved1B => true
  | .reserved1C => true
  | .reserved1D => true
  | .reserved1E => true
  | .reserved1F => true
  | .frameMove _ _ _ => true
  | .frameReverse _ _ _ => true
  | .frameTurn _ _ _ => true
  | .frameStop _ _ _ => true
  | .frameInfo _ _ _ => true
  | .framePing _ _ _ => true
  | .framePong _ _ _ => true
  | .frameError _ _ _ => true
  | .framePoll _ _ _ => true
  | .frameResponse _ _ _ => true
  | .frameCrane _ _ _ => true
  | .frameUnassignedB _ _ _ => true
  | .frameUnassignedC _ _ _ => true
  | .frameUnassignedD _ _ _ => true
  | .frameUnassignedE _ _ _ => true
  | .frameUnassignedF _ _ _ => true

end Sys2Proof
end

