-- ==== Sys2Proof/Decode.lean ====
section
/-! DEFINITION. The encodings of 30_encoding.md: the frame's fields (R60), the packed request (R80), the
op-code map (R81), the command codes (R66), the decoder and after it the encoder, the opcode table's rows,
and the values of the assembler's symbols (R65 to R70). -/

namespace Sys2Proof

/-! ### The frame (R60, R61) -/

/-- The address field, frame bits [1:0]. -/
def frameAddress (f : Frame) : Addr := f.extractLsb' 0 2
/-- The command field, frame bits [5:2]. -/
def frameCommand (f : Frame) : Cmd := f.extractLsb' 2 4
/-- The parameter field, frame bits [55:6]. -/
def frameParameter (f : Frame) : Param := f.extractLsb' 6 50
/-- The checksum field, frame bits [63:56]. -/
def frameChecksum (f : Frame) : Csum := f.extractLsb' 56 8
/-- The payload, frame bits [55:0] (R61). -/
def framePayload (f : Frame) : Payload := f.extractLsb' 0 56

/-- `{parameter, command, address}` (R61). -/
def mkPayload (p : Param) (k : Cmd) (a : Addr) : Payload := p ++ k ++ a

/-- `{checksum, payload}` (R60, R180). -/
def stamped (x : Csum) (pl : Payload) : Frame := x ++ pl

/-- `raw = {checksum, parameter, command, address}` (R60). -/
def mkFrame (x : Csum) (p : Param) (k : Cmd) (a : Addr) : Frame := stamped x (mkPayload p k a)

/-! ### The packed request (R80) -/

/-- `{C[15:0], B[15:0], A[63:0], OP[4:0]}`. -/
def packRequest (r : Request) : ReqWord := r.c ++ r.b ++ r.a ++ r.op

/-- OP in bits [4:0], A in [68:5], B in [84:69] and C in [100:85]. -/
def unpackRequest (w : ReqWord) : Request :=
  { op := w.extractLsb' 0 5, a := w.extractLsb' 5 64, b := w.extractLsb' 69 16, c := w.extractLsb' 85 16 }

/-! ### Decoding a request (R81, R83, R84) -/

/-- Operand A, "taken as an unsigned 64-bit value" (R84). -/
def operandA (r : Request) : Nat := r.a.toNat
/-- A 16-bit unsigned field, or CRC8's width: B[15:0]. -/
def operandB16 (r : Request) : BitVec 16 := r.b
/-- TURN's angle: B[15:0] "as a 16-bit two's-complement pattern". -/
def operandBSigned (r : Request) : Int := r.b.toInt
/-- An 8-bit field: B[7:0], "and B[15:8] is ignored". -/
def operandB8 (r : Request) : BitVec 8 := r.b.extractLsb' 0 8
/-- RESPONSE's data: C[15:0]. -/
def operandC16 (r : Request) : BitVec 16 := r.c

/-- The instruction a request names (R81). Total: each of the 32 op codes has its row, the six reserved ones
(R82) too; the last arm is op code 0x1F. -/
def decodeRequest (r : Request) : Instr :=
  match r.op with
  | 0x00#5 => .frClear
  | 0x01#5 => .frLoad (operandA r)
  | 0x02#5 => .frSetAddr (operandA r)
  | 0x03#5 => .frSetCmd (operandA r)
  | 0x04#5 => .frSetParam (operandA r)
  | 0x05#5 => .frSetCsum (operandA r)
  | 0x06#5 => .frGetAddr
  | 0x07#5 => .frGetCmd
  | 0x08#5 => .frGetParam
  | 0x09#5 => .frGetCsum
  | 0x0A#5 => .frGetPayload
  | 0x0B#5 => .frGetRaw
  | 0x0C#5 => .crc8 (operandA r) (operandB16 r)
  | 0x0D#5 => .decVerify
  | 0x0E#5 => .decParams
  | 0x0F#5 => .reserved0F
  | 0x10#5 => .encMove (operandA r) (operandB16 r)
  | 0x11#5 => .encReverse (operandA r) (operandB16 r)
  | 0x12#5 => .encTurn (operandA r) (operandBSigned r)
  | 0x13#5 => .encStop (operandA r)
  | 0x14#5 => .encInfo (operandA r) (operandB8 r)
  | 0x15#5 => .encPing (operandA r) (operandB8 r)
  | 0x16#5 => .encPong (operandA r) (operandB8 r)
  | 0x17#5 => .encError (operandA r) (operandB16 r)
  | 0x18#5 => .encPoll (operandA r) (operandB8 r)
  | 0x19#5 => .encResponse (operandA r) (operandB8 r) (operandC16 r)
  | 0x1A#5 => .encCrane (operandA r) (operandB8 r)
  | 0x1B#5 => .reserved1B
  | 0x1C#5 => .reserved1C
  | 0x1D#5 => .reserved1D
  | 0x1E#5 => .reserved1E
  | _ => .reserved1F

/-! ### Decoding a frame (R60, R66) -/

/-- The instruction a frame is, by its command field (R66). Total: codes 0xB to 0xF have their own rows
(R74); the last arm is code 0xF. -/
def decodeFrame (f : Frame) : Instr :=
  match frameCommand f with
  | 0x0#4 => .frameMove (frameAddress f) (frameParameter f) (frameChecksum f)
  | 0x1#4 => .frameReverse (frameAddress f) (frameParameter f) (frameChecksum f)
  | 0x2#4 => .frameTurn (frameAddress f) (frameParameter f) (frameChecksum f)
  | 0x3#4 => .frameStop (frameAddress f) (frameParameter f) (frameChecksum f)
  | 0x4#4 => .frameInfo (frameAddress f) (frameParameter f) (frameChecksum f)
  | 0x5#4 => .framePing (frameAddress f) (frameParameter f) (frameChecksum f)
  | 0x6#4 => .framePong (frameAddress f) (frameParameter f) (frameChecksum f)
  | 0x7#4 => .frameError (frameAddress f) (frameParameter f) (frameChecksum f)
  | 0x8#4 => .framePoll (frameAddress f) (frameParameter f) (frameChecksum f)
  | 0x9#4 => .frameResponse (frameAddress f) (frameParameter f) (frameChecksum f)
  | 0xA#4 => .frameCrane (frameAddress f) (frameParameter f) (frameChecksum f)
  | 0xB#4 => .frameUnassignedB (frameAddress f) (frameParameter f) (frameChecksum f)
  | 0xC#4 => .frameUnassignedC (frameAddress f) (frameParameter f) (frameChecksum f)
  | 0xD#4 => .frameUnassignedD (frameAddress f) (frameParameter f) (frameChecksum f)
  | 0xE#4 => .frameUnassignedE (frameAddress f) (frameParameter f) (frameChecksum f)
  | _ => .frameUnassignedF (frameAddress f) (frameParameter f) (frameChecksum f)

/-! ### Decoding numbered bits -/

/-- The instruction of a code. -/
def decode : Code → Instr
  | .req w => decodeRequest (unpackRequest w)
  | .frame f => decodeFrame f

/-- Why a string of numbered bits is no code of the core. -/
inductive DecodeReject where
  /-- The length is neither a frame's 64 bits nor one to thirteen bytes of a packed request. -/
  | noSuchLength (nbits : Nat)
  /-- A bit is set at or above the length given. -/
  | bitAboveLength (nbits w : Nat)
  /-- A bit is set at or above bit 101, the width of the packed request (R80). -/
  | bitAboveRequest (w : Nat)
deriving DecidableEq, Repr

/-- The code held in `nbits` bits numbered as the opcode table numbers them. 64 bits are a frame (the
table's FRAME rows); any other length of at most 13 bytes is a packed request, whose bits above the length
are 0 (the table's REQ rows). The two formats share no length, so the length tells them apart (log 10). -/
def readCode (nbits w : Nat) : Except DecodeReject Code :=
  if nbits = 0 ∨ 104 < nbits then .error (.noSuchLength nbits)
  else if 2 ^ nbits ≤ w then .error (.bitAboveLength nbits w)
  else if nbits = 64 then .ok (.frame (BitVec.ofNat 64 w))
  else if 2 ^ 101 ≤ w then .error (.bitAboveRequest w)
  else .ok (.req (BitVec.ofNat 101 w))

/-- The instruction the decoder reads from numbered bits, if it reads one. -/
def decodeTableWord (nbits w : Nat) : Option Instr :=
  match readCode nbits w with
  | .ok c => some (decode c)
  | .error _ => none

/-! ### Encoding (R11: operands an operation does not read are 0) -/

/-- A request word of the operands given. -/
def requestCode (op : BitVec 5) (a : Nat) (b c : BitVec 16) : Code :=
  .req (packRequest { op := op, a := BitVec.ofNat 64 a, b := b, c := c })

/-- A frame word of the fields given. -/
def frameCode (k : Cmd) (address : Addr) (parameter : Param) (checksum : Csum) : Code :=
  .frame (mkFrame checksum parameter k address)

/-- The word of a well-formed instruction. -/
def encode : Instr → Code
  | .frClear => requestCode 0x00 0 0 0
  | .frLoad a => requestCode 0x01 a 0 0
  | .frSetAddr a => requestCode 0x02 a 0 0
  | .frSetCmd a => requestCode 0x03 a 0 0
  | .frSetParam a => requestCode 0x04 a 0 0
  | .frSetCsum a => requestCode 0x05 a 0 0
  | .frGetAddr => requestCode 0x06 0 0 0
  | .frGetCmd => requestCode 0x07 0 0 0
  | .frGetParam => requestCode 0x08 0 0 0
  | .frGetCsum => requestCode 0x09 0 0 0
  | .frGetPayload => requestCode 0x0A 0 0 0
  | .frGetRaw => requestCode 0x0B 0 0 0
  | .crc8 v w => requestCode 0x0C v w 0
  | .decVerify => requestCode 0x0D 0 0 0
  | .decParams => requestCode 0x0E 0 0 0
  | .reserved0F => requestCode 0x0F 0 0 0
  | .encMove a distance => requestCode 0x10 a distance 0
  | .encReverse a distance => requestCode 0x11 a distance 0
  | .encTurn a angle => requestCode 0x12 a (BitVec.ofInt 16 angle) 0
  | .encStop a => requestCode 0x13 a 0 0
  | .encInfo a flag => requestCode 0x14 a (flag.setWidth 16) 0
  | .encPing a id => requestCode 0x15 a (id.setWidth 16) 0
  | .encPong a id => requestCode 0x16 a (id.setWidth 16) 0
  | .encError a errorCode => requestCode 0x17 a errorCode 0
  | .encPoll a pollId => requestCode 0x18 a (pollId.setWidth 16) 0
  | .encResponse a pollId data => requestCode 0x19 a (pollId.setWidth 16) data
  | .encCrane a flag => requestCode 0x1A a (flag.setWidth 16) 0
  | .reserved1B => requestCode 0x1B 0 0 0
  | .reserved1C => requestCode 0x1C 0 0 0
  | .reserved1D => requestCode 0x1D 0 0 0
  | .reserved1E => requestCode 0x1E 0 0 0
  | .reserved1F => requestCode 0x1F 0 0 0
  | .frameMove a p x => frameCode 0x0 a p x
  | .frameReverse a p x => frameCode 0x1 a p x
  | .frameTurn a p x => frameCode 0x2 a p x
  | .frameStop a p x => frameCode 0x3 a p x
  | .frameInfo a p x => frameCode 0x4 a p x
  | .framePing a p x => frameCode 0x5 a p x
  | .framePong a p x => frameCode 0x6 a p x
  | .frameError a p x => frameCode 0x7 a p x
  | .framePoll a p x => frameCode 0x8 a p x
  | .frameResponse a p x => frameCode 0x9 a p x
  | .frameCrane a p x => frameCode 0xA a p x
  | .frameUnassignedB a p x => frameCode 0xB a p x
  | .frameUnassignedC a p x => frameCode 0xC a p x
  | .frameUnassignedD a p x => frameCode 0xD a p x
  | .frameUnassignedE a p x => frameCode 0xE a p x
  | .frameUnassignedF a p x => frameCode 0xF a p x

/-! ### The opcode table's rows, transcribed from spec/opcode_table.json -/

/-- The two formats of the table. -/
inductive RowFormat where
  | req
  | frame
deriving DecidableEq, Repr

/-- A row: a code of the format is the row's when its bits under the mask are the pattern. -/
structure OpcodeRow where
  mnemonic : String
  format   : RowFormat
  pattern  : Nat
  mask     : Nat
deriving DecidableEq, Repr

/-- A REQ row: mask 0x1F over OP. -/
def requestRow (mnemonic : String) (op : Nat) : OpcodeRow := ⟨mnemonic, .req, op, 0x1F⟩
/-- A FRAME row: mask 0x3C over the command field. -/
def frameRow (mnemonic : String) (k : Nat) : OpcodeRow := ⟨mnemonic, .frame, 4 * k, 0x3C⟩

/-- The REQ rows of the opcode table, op code by op code (R81, R82). -/
def requestRows : List OpcodeRow :=
  [requestRow "FR_CLEAR" 0x00,
   requestRow "FR_LOAD" 0x01,
   requestRow "FR_SET_ADDR" 0x02,
   requestRow "FR_SET_CMD" 0x03,
   requestRow "FR_SET_PARAM" 0x04,
   requestRow "FR_SET_CSUM" 0x05,
   requestRow "FR_GET_ADDR" 0x06,
   requestRow "FR_GET_CMD" 0x07] ++
  [requestRow "FR_GET_PARAM" 0x08,
   requestRow "FR_GET_CSUM" 0x09,
   requestRow "FR_GET_PAYLOAD" 0x0A,
   requestRow "FR_GET_RAW" 0x0B,
   requestRow "CRC8" 0x0C,
   requestRow "DEC_VERIFY" 0x0D,
   requestRow "DEC_PARAMS" 0x0E,
   requestRow "RESERVED_0F" 0x0F] ++
  [requestRow "ENC_MOVE" 0x10,
   requestRow "ENC_REVERSE" 0x11,
   requestRow "ENC_TURN" 0x12,
   requestRow "ENC_STOP" 0x13,
   requestRow "ENC_INFO" 0x14,
   requestRow "ENC_PING" 0x15,
   requestRow "ENC_PONG" 0x16,
   requestRow "ENC_ERROR" 0x17] ++
  [requestRow "ENC_POLL" 0x18,
   requestRow "ENC_RESPONSE" 0x19,
   requestRow "ENC_CRANE" 0x1A,
   requestRow "RESERVED_1B" 0x1B,
   requestRow "RESERVED_1C" 0x1C,
   requestRow "RESERVED_1D" 0x1D,
   requestRow "RESERVED_1E" 0x1E,
   requestRow "RESERVED_1F" 0x1F]

/-- The FRAME rows of the opcode table, command code by command code (R66, R74). -/
def frameRows : List OpcodeRow :=
  [frameRow "FRAME_MOVE" 0x0,
   frameRow "FRAME_REVERSE" 0x1,
   frameRow "FRAME_TURN" 0x2,
   frameRow "FRAME_STOP" 0x3,
   frameRow "FRAME_INFO" 0x4,
   frameRow "FRAME_PING" 0x5,
   frameRow "FRAME_PONG" 0x6,
   frameRow "FRAME_ERROR" 0x7] ++
  [frameRow "FRAME_POLL" 0x8,
   frameRow "FRAME_RESPONSE" 0x9,
   frameRow "FRAME_CRANE" 0xa,
   frameRow "FRAME_UNASSIGNED_B" 0xb,
   frameRow "FRAME_UNASSIGNED_C" 0xc,
   frameRow "FRAME_UNASSIGNED_D" 0xd,
   frameRow "FRAME_UNASSIGNED_E" 0xe,
   frameRow "FRAME_UNASSIGNED_F" 0xf]

/-- The opcode table. -/
def opcodeTable : List OpcodeRow := requestRows ++ frameRows

/-- The bits of a code fit a row. -/
def rowMatches (row : OpcodeRow) : Code → Bool
  | .req w => row.format == .req && (w.toNat &&& row.mask) == row.pattern
  | .frame f => row.format == .frame && (f.toNat &&& row.mask) == row.pattern

/-- An instruction's own row. -/
def instrRow : Instr → OpcodeRow
  | .frClear => requestRow "FR_CLEAR" 0x00
  | .frLoad _ => requestRow "FR_LOAD" 0x01
  | .frSetAddr _ => requestRow "FR_SET_ADDR" 0x02
  | .frSetCmd _ => requestRow "FR_SET_CMD" 0x03
  | .frSetParam _ => requestRow "FR_SET_PARAM" 0x04
  | .frSetCsum _ => requestRow "FR_SET_CSUM" 0x05
  | .frGetAddr => requestRow "FR_GET_ADDR" 0x06
  | .frGetCmd => requestRow "FR_GET_CMD" 0x07
  | .frGetParam => requestRow "FR_GET_PARAM" 0x08
  | .frGetCsum => requestRow "FR_GET_CSUM" 0x09
  | .frGetPayload => requestRow "FR_GET_PAYLOAD" 0x0A
  | .frGetRaw => requestRow "FR_GET_RAW" 0x0B
  | .crc8 _ _ => requestRow "CRC8" 0x0C
  | .decVerify => requestRow "DEC_VERIFY" 0x0D
  | .decParams => requestRow "DEC_PARAMS" 0x0E
  | .reserved0F => requestRow "RESERVED_0F" 0x0F
  | .encMove _ _ => requestRow "ENC_MOVE" 0x10
  | .encReverse _ _ => requestRow "ENC_REVERSE" 0x11
  | .encTurn _ _ => requestRow "ENC_TURN" 0x12
  | .encStop _ => requestRow "ENC_STOP" 0x13
  | .encInfo _ _ => requestRow "ENC_INFO" 0x14
  | .encPing _ _ => requestRow "ENC_PING" 0x15
  | .encPong _ _ => requestRow "ENC_PONG" 0x16
  | .encError _ _ => requestRow "ENC_ERROR" 0x17
  | .encPoll _ _ => requestRow "ENC_POLL" 0x18
  | .encResponse _ _ _ => requestRow "ENC_RESPONSE" 0x19
  | .encCrane _ _ => requestRow "ENC_CRANE" 0x1A
  | .reserved1B => requestRow "RESERVED_1B" 0x1B
  | .reserved1C => requestRow "RESERVED_1C" 0x1C
  | .reserved1D => requestRow "RESERVED_1D" 0x1D
  | .reserved1E => requestRow "RESERVED_1E" 0x1E
  | .reserved1F => requestRow "RESERVED_1F" 0x1F
  | .frameMove _ _ _ => frameRow "FRAME_MOVE" 0x0
  | .frameReverse _ _ _ => frameRow "FRAME_REVERSE" 0x1
  | .frameTurn _ _ _ => frameRow "FRAME_TURN" 0x2
  | .frameStop _ _ _ => frameRow "FRAME_STOP" 0x3
  | .frameInfo _ _ _ => frameRow "FRAME_INFO" 0x4
  | .framePing _ _ _ => frameRow "FRAME_PING" 0x5
  | .framePong _ _ _ => frameRow "FRAME_PONG" 0x6
  | .frameError _ _ _ => frameRow "FRAME_ERROR" 0x7
  | .framePoll _ _ _ => frameRow "FRAME_POLL" 0x8
  | .frameResponse _ _ _ => frameRow "FRAME_RESPONSE" 0x9
  | .frameCrane _ _ _ => frameRow "FRAME_CRANE" 0xa
  | .frameUnassignedB _ _ _ => frameRow "FRAME_UNASSIGNED_B" 0xb
  | .frameUnassignedC _ _ _ => frameRow "FRAME_UNASSIGNED_C" 0xc
  | .frameUnassignedD _ _ _ => frameRow "FRAME_UNASSIGNED_D" 0xd
  | .frameUnassignedE _ _ _ => frameRow "FRAME_UNASSIGNED_E" 0xe
  | .frameUnassignedF _ _ _ => frameRow "FRAME_UNASSIGNED_F" 0xf

/-- The op code a mnemonic of the request table names (R81). -/
def opOfMnemonic (m : String) : Option (BitVec 5) :=
  (requestRows.find? (fun row => row.mnemonic == m)).map (fun row => BitVec.ofNat 5 row.pattern)

/-! ### The values of the symbols (R65 to R70) -/

/-- "A symbol and its number give the same request" (R90). -/
def symbolValue : Symbol → Nat
  | .raspberryHat => 0
  | .motionCtrl => 1
  | .gripCtrl => 3
  | .move => 0x0
  | .reverse => 0x1
  | .turn => 0x2
  | .stop => 0x3
  | .info => 0x4
  | .ping => 0x5
  | .pong => 0x6
  | .error => 0x7
  | .poll => 0x8
  | .response => 0x9
  | .crane => 0xA
  | .battery => 0
  | .temperature => 1
  | .up => 0
  | .down => 1
  | .degree => 0
  | .distance => 1
  | .lineSensor => 2
  | .invalidCrc => 0

/-- The symbol as the spec spells it (R90). -/
def symbolName : Symbol → String
  | .raspberryHat => "RASPBERRY_HAT"
  | .motionCtrl => "MOTION_CTRL"
  | .gripCtrl => "GRIP_CTRL"
  | .move => "MOVE"
  | .reverse => "REVERSE"
  | .turn => "TURN"
  | .stop => "STOP"
  | .info => "INFO"
  | .ping => "PING"
  | .pong => "PONG"
  | .error => "ERROR"
  | .poll => "POLL"
  | .response => "RESPONSE"
  | .crane => "CRANE"
  | .battery => "BATTERY"
  | .temperature => "TEMPERATURE"
  | .up => "UP"
  | .down => "DOWN"
  | .degree => "DEGREE"
  | .distance => "DISTANCE"
  | .lineSensor => "LINE_SENSOR"
  | .invalidCrc => "INVALID_CRC"

end Sys2Proof
end

