-- ==== Sys2Proof/Machine/Operands.lean ====
section
/-! DEFINITION. Operand forms: the frame's field setters (41_frame_ops.md R122 to R125), the pack rules
(42_param_schema.md R151 to R161), the unpack rules (R162 to R172) with their dispatch (R173), and how a
variant is reported (44_decoder_ops.md R201). -/

namespace Sys2Proof.Machine

/-! ### Field writes: only the field changes (00_scope.md R10) -/

/-- `FR[1:0] <- A[1:0]` (R122). -/
def setAddress (f : Frame) (a : Nat) : Frame :=
  mkFrame (frameChecksum f) (frameParameter f) (frameCommand f) (BitVec.ofNat 2 a)

/-- `FR[5:2] <- A[3:0]` (R123). -/
def setCommand (f : Frame) (a : Nat) : Frame :=
  mkFrame (frameChecksum f) (frameParameter f) (BitVec.ofNat 4 a) (frameAddress f)

/-- `FR[55:6] <- trunc_50(A)` (R124). -/
def setParameter (f : Frame) (a : Nat) : Frame :=
  mkFrame (frameChecksum f) (BitVec.ofNat 50 a) (frameCommand f) (frameAddress f)

/-- `FR[63:56] <- A[7:0]` (R125). -/
def setChecksum (f : Frame) (a : Nat) : Frame :=
  mkFrame (BitVec.ofNat 8 a) (frameParameter f) (frameCommand f) (frameAddress f)

/-! ### Pack -/

/-- The command code of a variant's form (R150). -/
def variantCode : Variant → Cmd
  | .move _ => 0x0
  | .reverse _ => 0x1
  | .turn _ => 0x2
  | .stop => 0x3
  | .info _ => 0x4
  | .ping _ => 0x5
  | .pong _ => 0x6
  | .error _ => 0x7
  | .poll _ => 0x8
  | .response _ _ => 0x9
  | .crane _ => 0xA

/-- A 16-bit field, zero-extended to 50 bits (R151, R152, R158). -/
def packU16 (x : BitVec 16) : Param := x.setWidth 50
/-- `zext_50(trunc_16(angle))`: the two's-complement pattern, not sign-extended (R153). -/
def packS16 (n : Int) : Param := (BitVec.ofInt 16 n).setWidth 50
/-- An 8-bit field, zero-extended (R155 to R157, R159, R161). -/
def packU8 (x : BitVec 8) : Param := x.setWidth 50
/-- `zext_50({data[15:0], poll_id[7:0]})` (R160). -/
def packPollData (pollId : BitVec 8) (data : BitVec 16) : Param := (data ++ pollId).setWidth 50

/-- The pack rules. Every bit outside the fields is 0, and none can fail. -/
def pack : Variant → Param
  | .move distance => packU16 distance
  | .reverse distance => packU16 distance
  | .turn angle => packS16 angle
  | .stop => 0
  | .info flag => packU8 flag
  | .ping id => packU8 id
  | .pong id => packU8 id
  | .error errorCode => packU16 errorCode
  | .poll pollId => packU8 pollId
  | .response pollId data => packPollData pollId data
  | .crane flag => packU8 flag

/-! ### Unpack: only the field bits are read (D13) -/

/-- `P[15:0]`. -/
def unpackU16 (p : Param) : BitVec 16 := p.extractLsb' 0 16
/-- `p` if `p < 0x8000`, else `p - 0x10000`, of the pattern `p = P[15:0]` (R164). -/
def unpackS16 (p : Param) : Int := (p.extractLsb' 0 16).toInt
/-- `P[7:0]`. -/
def unpackU8 (p : Param) : BitVec 8 := p.extractLsb' 0 8
/-- `P[23:8]`. -/
def unpackData (p : Param) : BitVec 16 := p.extractLsb' 8 16

/-- Dispatch on the command code (R173); `none` is `raise UnknownCommand()`, for codes 0xB to 0xF. -/
def unpackDispatch (k : Cmd) (p : Param) : Option Variant :=
  match k with
  | 0x0#4 => some (.move (unpackU16 p))
  | 0x1#4 => some (.reverse (unpackU16 p))
  | 0x2#4 => some (.turn (unpackS16 p))
  | 0x3#4 => some .stop
  | 0x4#4 => some (.info (unpackU8 p))
  | 0x5#4 => some (.ping (unpackU8 p))
  | 0x6#4 => some (.pong (unpackU8 p))
  | 0x7#4 => some (.error (unpackU16 p))
  | 0x8#4 => some (.poll (unpackU8 p))
  | 0x9#4 => some (.response (unpackU8 p) (unpackData p))
  | 0xA#4 => some (.crane (unpackU8 p))
  | _ => none

/-! ### Reporting a variant (R201, D24) -/

/-- D0: the first field, zero-extended; `sext_64(trunc_16(a))` for TURN; 0 for STOP. -/
def variantD0 : Variant → BitVec 64
  | .move distance => distance.setWidth 64
  | .reverse distance => distance.setWidth 64
  | .turn angle => (BitVec.ofInt 16 angle).signExtend 64
  | .stop => 0
  | .info flag => flag.setWidth 64
  | .ping id => id.setWidth 64
  | .pong id => id.setWidth 64
  | .error errorCode => errorCode.setWidth 64
  | .poll pollId => pollId.setWidth 64
  | .response pollId _ => pollId.setWidth 64
  | .crane flag => flag.setWidth 64

/-- D1: RESPONSE's data, else 0. -/
def variantD1 : Variant → BitVec 16
  | .move _ => 0
  | .reverse _ => 0
  | .turn _ => 0
  | .stop => 0
  | .info _ => 0
  | .ping _ => 0
  | .pong _ => 0
  | .error _ => 0
  | .poll _ => 0
  | .response _ data => data
  | .crane _ => 0

end Sys2Proof.Machine
end

