-- ==== Sys2Proof/Machine/Ops.lean ====
section
/-! DEFINITION. The shared operations: answering a request, raising an error, the CRC function and its
bit-serial engine, the encoder's and the decoder's common procedures, and the port's handshake. -/

namespace Sys2Proof.Machine

/-! ### Answering (10_state.md R26) -/

/-- `respond(status, tag, d0, d1)`: drive the response fields and set RSP_VALID. -/
def respond (st : Status) (tag : BitVec 4) (d0 : BitVec 64) (d1 : BitVec 16) (s : State) : State :=
  { s with rspValid := true, rsp := { status := statusCode st, tag := tag, d0 := d0, d1 := d1 } }

/-- `respond(OK, 0, d0, 0)`, for an operation whose result is D0 alone (R85). -/
def respondData (d0 : BitVec 64) (s : State) : Host.Outcome State Fault Refusal :=
  .next (respond .ok 0 d0 0 s)

/-- Raising an error, the core's whole exception entry: the request ends with `respond(status, 0, 0, 0)` and
writes no other state (60_exceptions.md R224). Nothing is saved, masked or redirected, and there is nothing
to return from (R228, R229). -/
def raiseError (st : Status) (s : State) : Host.Outcome State Fault Refusal :=
  .next (respond st 0 0 0 s)

/-- `FR <- f; respond(OK, 0, FR, 0)`, the end of every operation that writes FR (R85). -/
def writeFrame (f : Frame) (s : State) : Host.Outcome State Fault Refusal :=
  respondData f { s with fr := f }

/-- `if A >= bound: raise RangeError()`, else write the frame (R121 to R123, R125). -/
def writeChecked (bound a : Nat) (f : Frame) (s : State) : Host.Outcome State Fault Refusal :=
  if bound ≤ a then raiseError .rangeError s else writeFrame f s

/-! ### The CRC (40_crc8_engine.md) -/

/-- `crc_step(r, b)` (R102). -/
def crcStep (r : BitVec 8) (b : Bool) : BitVec 8 :=
  if r.getLsbD 7 ^^ b then (r <<< 1) ^^^ 0x07#8 else r <<< 1

/-- Bits n-1 down to 0 of v through `crcStep`, from the register r. -/
def crcBits (v : Nat) : Nat → BitVec 8 → BitVec 8
  | 0, r => r
  | n + 1, r => crcBits v n (crcStep r (v.testBit n))

/-- `crc8(v, w)` (R101). -/
def crc8 (v w : Nat) : BitVec 8 := crcBits v w 0

/-- `engine_start(v, w)` (R103). -/
def engineStart (v : BitVec 64) (w : BitVec 16) : Engine := { crcReg := 0, src := v, idx := w }

/-- `engine_step()`, taken only while IDX > 0 (R103). `SRC[k] = 0` for k at or above 64. -/
def engineStep (e : Engine) : Engine :=
  { e with crcReg := crcStep e.crcReg (e.src.getLsbD (e.idx.toNat - 1)), idx := e.idx - 1 }

/-- At most n engine steps, while IDX > 0. -/
def engineSteps : Nat → Engine → Engine
  | 0, e => e
  | n + 1, e => if e.idx = 0 then e else engineSteps n (engineStep e)

/-- `while IDX > 0: engine_step()`. IDX bounds the number of steps. -/
def engineRun (e : Engine) : Engine := engineSteps e.idx.toNat e

/-- One clock cycle of an engine that performs `bitsPerStep` engine steps in a cycle (CRC_BITS_PER_STEP,
00_scope.md R7). -/
def engineCycle (bitsPerStep : Nat) (e : Engine) : Engine := engineSteps bitsPerStep e

/-- A number of such cycles. -/
def engineCycles (bitsPerStep : Nat) : Nat → Engine → Engine
  | 0, e => e
  | n + 1, e => engineCycles bitsPerStep n (engineCycle bitsPerStep e)

/-- A computation of the engine over v with width w, run to its end. -/
def compute (v : BitVec 64) (w : BitVec 16) : Engine := engineRun (engineStart v w)

/-- The frame checksum's computation, `engine_start(zext_64(payload), 56)` (R106). -/
def computeChecksum (pl : Payload) : Engine := compute (pl.setWidth 64) 56

/-! ### The encoder (43_encoder_ops.md R180) -/

/-- `encode(k, addr, v)`. The payload is built and its checksum computed first; FR is written only at the
end, "checksum stamped last". -/
def encodeFrame (k : Cmd) (addr : Nat) (v : Variant) (s : State) : Host.Outcome State Fault Refusal :=
  if 4 ≤ addr then raiseError .rangeError s
  else
    let pl := mkPayload (pack v) k (BitVec.ofNat 2 addr)
    let e := computeChecksum pl
    writeFrame (stamped e.crcReg pl) { s with engine := e }

/-! ### The decoder (44_decoder_ops.md R201) -/

/-- The response that reports a variant: TAG the command code, D0 the first field, D1 RESPONSE's data. -/
def respondVariant (v : Variant) (s : State) : Host.Outcome State Fault Refusal :=
  .next (respond .ok (variantCode v) (variantD0 v) (variantD1 v) s)

/-! ### The port (10_state.md R24, R25; 70_reset_and_hazards.md R251) -/

/-- The cycle the outside drives now. -/
def currentCycle (s : State) : PortCycle := s.inputs.headD PortCycle.quiet

/-- The state once that cycle's inputs are read. -/
def dropCycle (s : State) : State := { s with inputs := s.inputs.tail }

/-- REQ_READY = not BUSY (R24). -/
def reqReady (s : State) : Bool := !s.busy

/-- Acceptance: "The core latches OP, A, B and C", and BUSY is set (R24, R25). -/
def acceptRequest (r : Request) (s : State) : State := { s with busy := true, req := r }

/-- Hand-off: BUSY returns to 0 and the response is the host's (R25). The response fields mean nothing from
here on (I10, log 5). -/
def takeResponse (s : State) : State :=
  { s with
    busy := false
    rspValid := false
    rsp := Config.staleResponse s.draws
    taken := s.taken ++ [s.rsp]
    draws := s.draws + 1 }

/-- Reset (R250, R251): the core's state is that of `State.reset`, and an outstanding request leaves
nothing. The host's inputs and record, and the count of free values, are not the core's and stay. -/
def resetCore (s : State) : State :=
  { State.reset with inputs := s.inputs, taken := s.taken, draws := s.draws }

end Sys2Proof.Machine
end

