-- ==== Sys2Proof/Machine/CrcOps.lean ====
section
/-! DEFINITION. The CRC8 operation, 40_crc8_engine.md R104. -/

namespace Sys2Proof.Machine

/-- CRC8 (R104): the engine runs over A with width B, and FR is neither read nor written. -/
def execCrc8 (v : Nat) (w : BitVec 16) (s : State) : Host.Outcome State Fault Refusal :=
  let e := compute (BitVec.ofNat 64 v) w
  respondData (e.crcReg.setWidth 64) { s with engine := e }

end Sys2Proof.Machine
end

