-- ==== Sys2Proof/Machine/DecoderOps.lean ====
section
/-! DEFINITION. The decoder's two operations, 44_decoder_ops.md R200 and R201. -/

namespace Sys2Proof.Machine

/-- DEC_VERIFY (R200): a mismatch is data, never an error (60_exceptions.md R225). -/
def execDecVerify (s : State) : Host.Outcome State Fault Refusal :=
  let e := computeChecksum (framePayload s.fr)
  respondData (boolData (e.crcReg == frameChecksum s.fr)) { s with engine := e }

/-- DEC_PARAMS (R201): dispatch on the command field of FR. The checksum is not consulted (R202). -/
def execDecParams (s : State) : Host.Outcome State Fault Refusal :=
  match unpackDispatch (frameCommand s.fr) (frameParameter s.fr) with
  | some v => respondVariant v s
  | none => raiseError .unknownCommand s

end Sys2Proof.Machine
end

