-- ==== Sys2Proof/Machine/EncoderOps.lean ====
section
/-! DEFINITION. The eleven encoder operations, 43_encoder_ops.md R181 to R191, each the common procedure
(R180) with the command code it fixes and its variant. -/

namespace Sys2Proof.Machine

/-- ENC_MOVE (R181). -/
def execEncMove (a : Nat) (distance : BitVec 16) (s : State) : Host.Outcome State Fault Refusal :=
  encodeFrame 0x0 a (.move distance) s

/-- ENC_REVERSE (R182). -/
def execEncReverse (a : Nat) (distance : BitVec 16) (s : State) : Host.Outcome State Fault Refusal :=
  encodeFrame 0x1 a (.reverse distance) s

/-- ENC_TURN (R183). -/
def execEncTurn (a : Nat) (angle : Int) (s : State) : Host.Outcome State Fault Refusal :=
  encodeFrame 0x2 a (.turn angle) s

/-- ENC_STOP (R184). -/
def execEncStop (a : Nat) (s : State) : Host.Outcome State Fault Refusal :=
  encodeFrame 0x3 a .stop s

/-- ENC_INFO (R185). -/
def execEncInfo (a : Nat) (flag : BitVec 8) (s : State) : Host.Outcome State Fault Refusal :=
  encodeFrame 0x4 a (.info flag) s

/-- ENC_PING (R186). -/
def execEncPing (a : Nat) (id : BitVec 8) (s : State) : Host.Outcome State Fault Refusal :=
  encodeFrame 0x5 a (.ping id) s

/-- ENC_PONG (R187). -/
def execEncPong (a : Nat) (id : BitVec 8) (s : State) : Host.Outcome State Fault Refusal :=
  encodeFrame 0x6 a (.pong id) s

/-- ENC_ERROR (R188). -/
def execEncError (a : Nat) (errorCode : BitVec 16) (s : State) : Host.Outcome State Fault Refusal :=
  encodeFrame 0x7 a (.error errorCode) s

/-- ENC_POLL (R189). -/
def execEncPoll (a : Nat) (pollId : BitVec 8) (s : State) : Host.Outcome State Fault Refusal :=
  encodeFrame 0x8 a (.poll pollId) s

/-- ENC_RESPONSE (R190). -/
def execEncResponse (a : Nat) (pollId : BitVec 8) (data : BitVec 16) (s : State) :
    Host.Outcome State Fault Refusal :=
  encodeFrame 0x9 a (.response pollId data) s

/-- ENC_CRANE (R191). -/
def execEncCrane (a : Nat) (flag : BitVec 8) (s : State) : Host.Outcome State Fault Refusal :=
  encodeFrame 0xA a (.crane flag) s

end Sys2Proof.Machine
end

