-- ==== Sys2Proof/Machine/FrameOps.lean ====
section
/-! DEFINITION. The twelve operations on the frame register, 41_frame_ops.md R120 to R131. -/

namespace Sys2Proof.Machine

/-! ### Constructors -/

/-- FR_CLEAR (R120). -/
def execFrClear (s : State) : Host.Outcome State Fault Refusal := writeFrame 0 s

/-- FR_LOAD (R121), with the check that a 64-bit A never fails (D10). -/
def execFrLoad (a : Nat) (s : State) : Host.Outcome State Fault Refusal :=
  writeChecked (2 ^ 64) a (BitVec.ofNat 64 a) s

/-! ### Setters -/

/-- FR_SET_ADDR (R122). -/
def execFrSetAddr (a : Nat) (s : State) : Host.Outcome State Fault Refusal :=
  writeChecked 4 a (setAddress s.fr a) s

/-- FR_SET_CMD (R123). -/
def execFrSetCmd (a : Nat) (s : State) : Host.Outcome State Fault Refusal :=
  writeChecked 16 a (setCommand s.fr a) s

/-- FR_SET_PARAM (R124): no check, the value is truncated. -/
def execFrSetParam (a : Nat) (s : State) : Host.Outcome State Fault Refusal :=
  writeFrame (setParameter s.fr a) s

/-- FR_SET_CSUM (R125). -/
def execFrSetCsum (a : Nat) (s : State) : Host.Outcome State Fault Refusal :=
  writeChecked 256 a (setChecksum s.fr a) s

/-! ### Getters -/

/-- FR_GET_ADDR (R126). -/
def execFrGetAddr (s : State) : Host.Outcome State Fault Refusal :=
  respondData ((frameAddress s.fr).setWidth 64) s

/-- FR_GET_CMD (R127). -/
def execFrGetCmd (s : State) : Host.Outcome State Fault Refusal :=
  respondData ((frameCommand s.fr).setWidth 64) s

/-- FR_GET_PARAM (R128). -/
def execFrGetParam (s : State) : Host.Outcome State Fault Refusal :=
  respondData ((frameParameter s.fr).setWidth 64) s

/-- FR_GET_CSUM (R129). -/
def execFrGetCsum (s : State) : Host.Outcome State Fault Refusal :=
  respondData ((frameChecksum s.fr).setWidth 64) s

/-- FR_GET_PAYLOAD (R130). -/
def execFrGetPayload (s : State) : Host.Outcome State Fault Refusal :=
  respondData ((framePayload s.fr).setWidth 64) s

/-- FR_GET_RAW (R131). -/
def execFrGetRaw (s : State) : Host.Outcome State Fault Refusal := respondData s.fr s

end Sys2Proof.Machine
end

