-- ==== Sys2Proof/Machine/FrameWords.lean ====
section
/-! DEFINITION. The sixteen frame rows of the opcode table: what DEC_PARAMS answers for a frame of that
command code (42_param_schema.md R162 to R173, 44_decoder_ops.md R201). The frame is the operand. In the
machine it stands in FR, and a step runs it as the DEC_PARAMS request (log 9); FR is not written (10_state.md
R21). The address and the checksum do not matter (R202), nor do the parameter's unused bits (D13). -/

namespace Sys2Proof.Machine

/-- A MOVE frame (R162). -/
def execFrameMove (_a : Addr) (p : Param) (_x : Csum) (s : State) : Host.Outcome State Fault Refusal :=
  respondVariant (.move (unpackU16 p)) s

/-- A REVERSE frame (R163). -/
def execFrameReverse (_a : Addr) (p : Param) (_x : Csum) (s : State) : Host.Outcome State Fault Refusal :=
  respondVariant (.reverse (unpackU16 p)) s

/-- A TURN frame (R164). -/
def execFrameTurn (_a : Addr) (p : Param) (_x : Csum) (s : State) : Host.Outcome State Fault Refusal :=
  respondVariant (.turn (unpackS16 p)) s

/-- A STOP frame (R165). -/
def execFrameStop (_a : Addr) (_p : Param) (_x : Csum) (s : State) : Host.Outcome State Fault Refusal :=
  respondVariant .stop s

/-- A INFO frame (R166). -/
def execFrameInfo (_a : Addr) (p : Param) (_x : Csum) (s : State) : Host.Outcome State Fault Refusal :=
  respondVariant (.info (unpackU8 p)) s

/-- A PING frame (R167). -/
def execFramePing (_a : Addr) (p : Param) (_x : Csum) (s : State) : Host.Outcome State Fault Refusal :=
  respondVariant (.ping (unpackU8 p)) s

/-- A PONG frame (R168). -/
def execFramePong (_a : Addr) (p : Param) (_x : Csum) (s : State) : Host.Outcome State Fault Refusal :=
  respondVariant (.pong (unpackU8 p)) s

/-- A ERROR frame (R169). -/
def execFrameError (_a : Addr) (p : Param) (_x : Csum) (s : State) : Host.Outcome State Fault Refusal :=
  respondVariant (.error (unpackU16 p)) s

/-- A POLL frame (R170). -/
def execFramePoll (_a : Addr) (p : Param) (_x : Csum) (s : State) : Host.Outcome State Fault Refusal :=
  respondVariant (.poll (unpackU8 p)) s

/-- A RESPONSE frame (R171). -/
def execFrameResponse (_a : Addr) (p : Param) (_x : Csum) (s : State) : Host.Outcome State Fault Refusal :=
  respondVariant (.response (unpackU8 p) (unpackData p)) s

/-- A CRANE frame (R172). -/
def execFrameCrane (_a : Addr) (p : Param) (_x : Csum) (s : State) : Host.Outcome State Fault Refusal :=
  respondVariant (.crane (unpackU8 p)) s

/-- A frame of the unassigned command code 0xB (R173, R222). -/
def execFrameUnassignedB (_a : Addr) (_p : Param) (_x : Csum) (s : State) :
    Host.Outcome State Fault Refusal :=
  raiseError .unknownCommand s

/-- A frame of the unassigned command code 0xC (R173, R222). -/
def execFrameUnassignedC (_a : Addr) (_p : Param) (_x : Csum) (s : State) :
    Host.Outcome State Fault Refusal :=
  raiseError .unknownCommand s

/-- A frame of the unassigned command code 0xD (R173, R222). -/
def execFrameUnassignedD (_a : Addr) (_p : Param) (_x : Csum) (s : State) :
    Host.Outcome State Fault Refusal :=
  raiseError .unknownCommand s

/-- A frame of the unassigned command code 0xE (R173, R222). -/
def execFrameUnassignedE (_a : Addr) (_p : Param) (_x : Csum) (s : State) :
    Host.Outcome State Fault Refusal :=
  raiseError .unknownCommand s

/-- A frame of the unassigned command code 0xF (R173, R222). -/
def execFrameUnassignedF (_a : Addr) (_p : Param) (_x : Csum) (s : State) :
    Host.Outcome State Fault Refusal :=
  raiseError .unknownCommand s

end Sys2Proof.Machine
end

