-- ==== Sys2Proof/Machine/ReservedOps.lean ====
section
/-! DEFINITION. The reserved op codes, 30_encoding.md R82: each raises IllegalOp and changes no state
(60_exceptions.md R223, R224). The OP check comes before every other (R226), so no operand is read. -/

namespace Sys2Proof.Machine

/-- OP 0x0F (R82, R223). -/
def execReserved0F (s : State) : Host.Outcome State Fault Refusal := raiseError .illegalOp s

/-- OP 0x1B (R82, R223). -/
def execReserved1B (s : State) : Host.Outcome State Fault Refusal := raiseError .illegalOp s

/-- OP 0x1C (R82, R223). -/
def execReserved1C (s : State) : Host.Outcome State Fault Refusal := raiseError .illegalOp s

/-- OP 0x1D (R82, R223). -/
def execReserved1D (s : State) : Host.Outcome State Fault Refusal := raiseError .illegalOp s

/-- OP 0x1E (R82, R223). -/
def execReserved1E (s : State) : Host.Outcome State Fault Refusal := raiseError .illegalOp s

/-- OP 0x1F (R82, R223). -/
def execReserved1F (s : State) : Host.Outcome State Fault Refusal := raiseError .illegalOp s

end Sys2Proof.Machine
end

