-- ==== Sys2Proof/Machine/Dispatch.lean ====
section
/-! DEFINITION. The dispatch: one arm per constructor of Instr. -/

namespace Sys2Proof.Machine

/-- What an instruction does. -/
def exec (i : Instr) (s : State) : Host.Outcome State Fault Refusal :=
  match i with
    | .frClear => Sys2Proof.Machine.execFrClear s
    | .frLoad a => Sys2Proof.Machine.execFrLoad a s
    | .frSetAddr a => Sys2Proof.Machine.execFrSetAddr a s
    | .frSetCmd a => Sys2Proof.Machine.execFrSetCmd a s
    | .frSetParam a => Sys2Proof.Machine.execFrSetParam a s
    | .frSetCsum a => Sys2Proof.Machine.execFrSetCsum a s
    | .frGetAddr => Sys2Proof.Machine.execFrGetAddr s
    | .frGetCmd => Sys2Proof.Machine.execFrGetCmd s
    | .frGetParam => Sys2Proof.Machine.execFrGetParam s
    | .frGetCsum => Sys2Proof.Machine.execFrGetCsum s
    | .frGetPayload => Sys2Proof.Machine.execFrGetPayload s
    | .frGetRaw => Sys2Proof.Machine.execFrGetRaw s
    | .crc8 v w => Sys2Proof.Machine.execCrc8 v w s
    | .decVerify => Sys2Proof.Machine.execDecVerify s
    | .decParams => Sys2Proof.Machine.execDecParams s
    | .reserved0F => Sys2Proof.Machine.execReserved0F s
    | .encMove a distance => Sys2Proof.Machine.execEncMove a distance s
    | .encReverse a distance => Sys2Proof.Machine.execEncReverse a distance s
    | .encTurn a angle => Sys2Proof.Machine.execEncTurn a angle s
    | .encStop a => Sys2Proof.Machine.execEncStop a s
    | .encInfo a flag => Sys2Proof.Machine.execEncInfo a flag s
    | .encPing a id => Sys2Proof.Machine.execEncPing a id s
    | .encPong a id => Sys2Proof.Machine.execEncPong a id s
    | .encError a errorCode => Sys2Proof.Machine.execEncError a errorCode s
    | .encPoll a pollId => Sys2Proof.Machine.execEncPoll a pollId s
    | .encResponse a pollId data => Sys2Proof.Machine.execEncResponse a pollId data s
    | .encCrane a flag => Sys2Proof.Machine.execEncCrane a flag s
    | .reserved1B => Sys2Proof.Machine.execReserved1B s
    | .reserved1C => Sys2Proof.Machine.execReserved1C s
    | .reserved1D => Sys2Proof.Machine.execReserved1D s
    | .reserved1E => Sys2Proof.Machine.execReserved1E s
    | .reserved1F => Sys2Proof.Machine.execReserved1F s
    | .frameMove address parameter checksum => Sys2Proof.Machine.execFrameMove address parameter checksum s
    | .frameReverse address parameter checksum => Sys2Proof.Machine.execFrameReverse address parameter checksum s
    | .frameTurn address parameter checksum => Sys2Proof.Machine.execFrameTurn address parameter checksum s
    | .frameStop address parameter checksum => Sys2Proof.Machine.execFrameStop address parameter checksum s
    | .frameInfo address parameter checksum => Sys2Proof.Machine.execFrameInfo address parameter checksum s
    | .framePing address parameter checksum => Sys2Proof.Machine.execFramePing address parameter checksum s
    | .framePong address parameter checksum => Sys2Proof.Machine.execFramePong address parameter checksum s
    | .frameError address parameter checksum => Sys2Proof.Machine.execFrameError address parameter checksum s
    | .framePoll address parameter checksum => Sys2Proof.Machine.execFramePoll address parameter checksum s
    | .frameResponse address parameter checksum => Sys2Proof.Machine.execFrameResponse address parameter checksum s
    | .frameCrane address parameter checksum => Sys2Proof.Machine.execFrameCrane address parameter checksum s
    | .frameUnassignedB address parameter checksum => Sys2Proof.Machine.execFrameUnassignedB address parameter checksum s
    | .frameUnassignedC address parameter checksum => Sys2Proof.Machine.execFrameUnassignedC address parameter checksum s
    | .frameUnassignedD address parameter checksum => Sys2Proof.Machine.execFrameUnassignedD address parameter checksum s
    | .frameUnassignedE address parameter checksum => Sys2Proof.Machine.execFrameUnassignedE address parameter checksum s
    | .frameUnassignedF address parameter checksum => Sys2Proof.Machine.execFrameUnassignedF address parameter checksum s

end Sys2Proof.Machine
end

