-- ==== Sys2Proof/Machine/Step.lean ====
section
/-! DEFINITION. One step: one port cycle of the core. At most one of these happens in it: reset, acceptance,
execution of the accepted request with its response, hand-off. -/

namespace Sys2Proof.Machine

/-- One port cycle.

* Reset wins over everything else (70_reset_and_hazards.md R251, R259; log 17).
* With BUSY = 0, a request is accepted when REQ_VALID = 1 (10_state.md R24).
* With BUSY = 1 and no response yet, the accepted request executes, atomically (R27), unless the core needs
  a further cycle (LATENCY, log 1).
* With BUSY = 1 and RSP_VALID = 1, the response is held until RSP_READY = 1 (R25, R26). -/
def step (s : State) : Host.Outcome State Fault Refusal :=
  let c := currentCycle s
  let t := dropCycle s
  if c.reset then .next (resetCore t)
  else if reqReady s then .next (if c.reqValid then acceptRequest c.req t else t)
  else if s.rspValid then .next (if c.rspReady then takeResponse t else t)
  else if c.wait then .next t
  else exec (decodeRequest s.req) t

/-- The DEC_PARAMS request, which executes the frame in FR (44_decoder_ops.md R201, log 9). -/
def decParamsRequest : Request := { op := 0x0E, a := 0, b := 0, c := 0 }

/-- A state whose next step executes a request: it stands accepted and latched, and the next cycle is a
quiet one, before those the host was to drive. -/
def withAccepted (r : Request) (s : State) : State :=
  { s with busy := true, rspValid := false, req := r, inputs := PortCycle.quiet :: s.inputs }

/-- The state with a table word where the next step runs it (log 11): a request word is latched as the
accepted request; a frame word is put in FR with DEC_PARAMS as that request. Bits that are no code leave the
state as it is. -/
def State.withFetchWord (s : State) (nbits w : Nat) : State :=
  match readCode nbits w with
  | .ok (.req v) => withAccepted (unpackRequest v) s
  | .ok (.frame f) => withAccepted decParamsRequest { s with fr := f }
  | .error _ => s

end Sys2Proof.Machine
end

