-- ==== Sys2Proof/Machine/Assembler.lean ====
section
/-! DEFINITION. The assembler's lines as requests (00_scope.md R11, 30_encoding.md R90, R91), and the host
procedure that presents a list of requests one after another. No line has an op code of its own: each is one
request or a fixed sequence of them. -/

namespace Sys2Proof.Machine

/-- The number an operand stands for (R90). -/
def operandValue : AsmOperand → Int
  | .num n => n
  | .sym x => symbolValue x

/-- A value for the 64-bit field A: unsigned (R84, D9). -/
def assembleA (n : Int) : Option (BitVec 64) :=
  if 0 ≤ n ∧ n < 2 ^ 64 then some (BitVec.ofInt 64 n) else none

/-- A value for a 16-bit unsigned field (R84). -/
def assembleU16 (n : Int) : Option (BitVec 16) :=
  if 0 ≤ n ∧ n < 2 ^ 16 then some (BitVec.ofInt 16 n) else none

/-- A value for a signed field: a pattern, or a signed decimal, of which the assembler "writes its 16-bit
two's-complement pattern" (R11). -/
def assembleS16 (n : Int) : Option (BitVec 16) :=
  if -(2 ^ 15) ≤ n ∧ n < 2 ^ 16 then some (BitVec.ofInt 16 n) else none

/-- Operand B: signed for ENC_TURN alone, whose angle is the one signed field (R72, R84; log 16). -/
def assembleB (op : BitVec 5) (n : Int) : Option (BitVec 16) :=
  if op = 0x12 then assembleS16 n else assembleU16 n

/-- A request, if every operand can be presented at the port. -/
def assembleRequest (op : BitVec 5) (a b c : AsmOperand) : Option Request :=
  match assembleA (operandValue a), assembleB op (operandValue b), assembleU16 (operandValue c) with
  | some a, some b, some c => some { op := op, a := a, b := b, c := c }
  | _, _, _ => none

/-- ENCODE's op code for the command K: OP[4] = 1 and OP[3:0] = K (R81); refused outside 0x0 to 0xA (R91). -/
def encodeOp (k : Int) : Option (BitVec 5) :=
  if 0 ≤ k ∧ k ≤ 10 then some (BitVec.ofInt 5 (16 + k)) else none

/-- A request without operands. -/
def plainRequest (op : BitVec 5) : Request := { op := op, a := 0, b := 0, c := 0 }

/-- The requests a line stands for, each a function of the D0 of the response before it ("The host carries
the values between the three requests", R91). -/
def assemble : AsmLine → Option (List (BitVec 64 → Request))
  | .request op a b c => (assembleRequest op a b c).map (fun r => [fun _ => r])
  | .encode a cmd b c =>
    match encodeOp (operandValue cmd) with
    | some op => (assembleRequest op a b c).map (fun r => [fun _ => r])
    | none => none
  | .decAddress => some [fun _ => plainRequest 0x06]
  | .decCommand => some [fun _ => plainRequest 0x07]
  | .decRawParam => some [fun _ => plainRequest 0x08]
  | .decChecksum => some [fun _ => plainRequest 0x09]
  | .decWrap raw => (assembleRequest 0x01 raw (.num 0) (.num 0)).map (fun r => [fun _ => r])
  | .stamp =>
    some
      [fun _ => plainRequest 0x0A,
       fun payload => { op := 0x0C, a := payload, b := 56, c := 0 },
       fun crc => { op := 0x05, a := crc, b := 0, c := 0 }]

/-- Execute requests one after another, each given the D0 of the response before it (R27). -/
def serveRequests : List (BitVec 64 → Request) → BitVec 64 → State → Host.Outcome State Fault Refusal
  | [], _, s => .next s
  | r :: rs, d0, s =>
    match exec (decodeRequest (r d0)) s with
    | .next t => serveRequests rs t.rsp.d0 t
    | .fault f => .fault f
    | .refused f => .refused f

end Sys2Proof.Machine
end

