-- ==== Sys2Proof/Machine/Wire.lean ====
section
/-! DEFINITION. The host's cut of a frame into bytes (20_memory.md R44). The core has no byte order, and the
wire is outside it (00_scope.md R3); WIRE_BYTE_ORDER is an argument (R7, log 13). -/

namespace Sys2Proof.Machine

/-- WIRE_BYTE_ORDER: which byte of the frame (byte k holds frame bits [8k+7:8k]) is sent first, second, and
so on. -/
abbrev WireByteOrder := List Nat

/-- The orders the parameter ranges over: each of the 8 bytes once. -/
def WireByteOrder.valid (order : WireByteOrder) : Prop := order.Perm (List.range 8)

/-- Byte k of a frame. -/
def frameByte (f : Frame) (k : Nat) : BitVec 8 := f.extractLsb' (8 * k) 8

/-- "A host that cuts a frame into bytes". -/
def toWire (order : WireByteOrder) (f : Frame) : List (BitVec 8) := order.map (frameByte f)

/-- A host that "joins bytes into a frame". -/
def fromWire : WireByteOrder → List (BitVec 8) → Frame
  | k :: ks, b :: bs => (b.setWidth 64 <<< (8 * k)) ||| fromWire ks bs
  | _, _ => 0

end Sys2Proof.Machine
end

