-- ==== Sys2Proof/Safety.lean ====
section
/-! DEFINITION. The terms the claims use: valid frames, what a state is after an answer, the invariant, the
host's cycles around one request, and what a run shows. -/

namespace Sys2Proof.Machine

/-! ### Frames -/

/-- "A frame is valid when `raw[63:56] == crc8(raw[55:0], 56)`" (30_encoding.md R62). -/
def frameValid (f : Frame) : Prop := frameChecksum f = crc8 (framePayload f).toNat 56

/-- How many low bits of the parameter field the fields of a command use (R72, R73): 16, 8, 24 or none. -/
def usedBits (k : Cmd) : Nat :=
  if k = 0x0 ∨ k = 0x1 ∨ k = 0x2 ∨ k = 0x7 then 16
  else if k = 0x3 then 0
  else if k = 0x9 then 24
  else 8

/-! ### Answers -/

/-- The state once a request is answered: FR, the engine and the response as given, RSP_VALID set, and
everything else as it was. -/
def answered (s : State) (fr : Frame) (e : Engine) (rsp : Response) : State :=
  { s with fr := fr, engine := e, rspValid := true, rsp := rsp }

/-- A request that computes nothing and leaves FR: only the response changes. -/
def answeredOnly (s : State) (rsp : Response) : State := answered s s.fr s.engine rsp

/-- The response of an error (60_exceptions.md R224). -/
def errorResponse (st : Status) : Response := { status := statusCode st, tag := 0, d0 := 0, d1 := 0 }

/-- A response with STATUS = OK and D0 alone (30_encoding.md R85). -/
def dataResponse (d0 : BitVec 64) : Response := { status := 0, tag := 0, d0 := d0, d1 := 0 }

/-- The engine at the end of a computation of `crc8(v, w)` (R103). -/
def engineDone (v : BitVec 64) (w : Nat) : Engine := { crcReg := crc8 v.toNat w, src := v, idx := 0 }

/-- The payload `{P, k, addr}` as a number (43_encoder_ops.md R180). -/
def payloadNumber (k addr p : Nat) : Nat := addr + 4 * k + 64 * p

/-- The stamped frame of a payload number: `{crc8(pl, 56), pl}` (R180). -/
def stampedNumber (pl : Nat) : Frame := BitVec.ofNat 64 (pl + 2 ^ 56 * (crc8 pl 56).toNat)

/-- The state after an encoder operation with command k, address addr and parameter field p: FR and D0 hold
the stamped frame; `e` is what the engine is left with. -/
def encoded (s : State) (e : Engine) (k addr p : Nat) : State :=
  let f := stampedNumber (payloadNumber k addr p)
  answered s f e (dataResponse f)

/-- The requests of op code `op`, whatever their operands, are the instruction given (30_encoding.md R81,
R84). -/
def requestNames (op : BitVec 5) (i : Request → Instr) : Prop :=
  ∀ r : Request, r.op = op → decodeRequest r = i r

/-- B[7:0]. -/
def lowB (r : Request) : BitVec 8 := BitVec.ofNat 8 (r.b.toNat % 256)

/-- The encoder operation of a variant: "one constructor per Command" (R181 to R191). -/
def encoderFor (a : Nat) : Variant → Instr
  | .move distance => .encMove a distance
  | .reverse distance => .encReverse a distance
  | .turn angle => .encTurn a angle
  | .stop => .encStop a
  | .info flag => .encInfo a flag
  | .ping id => .encPing a id
  | .pong id => .encPong a id
  | .error errorCode => .encError a errorCode
  | .poll pollId => .encPoll a pollId
  | .response pollId data => .encResponse a pollId data
  | .crane flag => .encCrane a flag

/-- Instructions executed one after another. -/
def execAll : List Instr → State → Host.Outcome State Fault Refusal
  | [], s => .next s
  | i :: is, s =>
    match exec i s with
    | .next t => execAll is t
    | .fault f => .fault f
    | .refused f => .refused f

/-! ### The invariant -/

/-- A response that some row of R85 allows. With an error there is no data (R224). With STATUS = OK, TAG is 0
or an assigned command code, D1 is RESPONSE's data alone, and D0 is what R201 reports for that TAG: 0 for STOP,
an 8-bit or a 16-bit field zero-extended, TURN's angle sign-extended. Under TAG 0 it may be any value, since
the operations beside DEC_PARAMS answer there too. -/
structure responseLegal (r : Response) : Prop where
  error_empty : r.status ≠ 0 → r.tag = 0 ∧ r.d0 = 0 ∧ r.d1 = 0
  tag_assigned : r.tag.toNat ≤ 10
  d1_response : r.d1 ≠ 0 → r.tag = 9
  d0_u16 : r.tag = 1 ∨ r.tag = 7 → r.d0.toNat < 65536
  d0_s16 : r.tag = 2 → ∃ angle : BitVec 16, r.d0 = angle.signExtend 64
  d0_none : r.tag = 3 → r.d0 = 0
  d0_u8 : r.tag = 4 ∨ r.tag = 5 ∨ r.tag = 6 ∨ r.tag = 8 ∨ r.tag = 9 ∨ r.tag = 10 → r.d0.toNat < 256

/-- What every step keeps: a response stands only while the core is busy (R25, R26) and is one R85 allows;
the engine is idle between steps (R103: `engine_done()` is IDX = 0; log 6, and log 1 while a request waits);
and the host has only been given such responses. -/
structure Inv (s : State) : Prop where
  valid_busy : s.rspValid = true → s.busy = true
  engine_idle : s.engine.idx = 0
  response_legal : s.rspValid = true → responseLegal s.rsp
  taken_legal : ∀ r ∈ s.taken, responseLegal r

/-! ### Runs (70_reset_and_hazards.md R259, R260) -/

/-- One request as a host presents it and takes its response: any cycles before it, any number of cycles the
core still needs (LATENCY), any cycles before the response is taken. -/
structure TimedRequest where
  before  : List PortCycle
  present : PortCycle
  working : List PortCycle
  finish  : PortCycle
  holding : List PortCycle
  take    : PortCycle
deriving DecidableEq, Repr

/-- The port cycles of it, in order. -/
def TimedRequest.cycles (t : TimedRequest) : List PortCycle :=
  t.before ++ t.present :: t.working ++ t.finish :: t.holding ++ [t.take]

/-- No reset; nothing is presented before the request; the core finishes in the `finish` cycle; the response
is taken in the `take` cycle. The host may present anything while the core is busy (R25). -/
def TimedRequest.ok (t : TimedRequest) : Prop :=
  (∀ c ∈ t.cycles, c.reset = false) ∧
  (∀ c ∈ t.before, c.reqValid = false) ∧ t.present.reqValid = true ∧
  (∀ c ∈ t.working, c.wait = true) ∧ t.finish.wait = false ∧
  (∀ c ∈ t.holding, c.rspReady = false) ∧ t.take.rspReady = true

/-- The run at the level of requests (R4, R27): the responses in order, and the final FR. -/
def serveAll : List Request → State → Option (List Response × Frame)
  | [], s => some ([], s.fr)
  | r :: rs, s =>
    match exec (decodeRequest r) s with
    | .next t => (serveAll rs t).map (fun p => (t.rsp :: p.1, p.2))
    | .fault _ => none
    | .refused _ => none

/-- The decode function of R203: FR_LOAD, then the four reads; the response of each read. -/
def decodeRun (raw : Frame) (s : State) : Option (List Response × Frame) :=
  serveAll
    [{ op := 0x01, a := raw, b := 0, c := 0 }, plainRequest 0x06, plainRequest 0x07, plainRequest 0x0E,
     plainRequest 0x0D] s

end Sys2Proof.Machine
end

