-- ==== Sys2Proof/Certificates/Slice0/Obligations.lean ====
section
/-! DEFINITION. The statements for the provers. Each docstring names the rule of spec/ it formalises. -/

open Sys2Proof
open Sys2Proof.Machine

/-! ### Encodings (30_encoding.md) -/

/-- Every operand of every instruction comes back from its word (R80, R81, R84, R60). -/
def Obligations.DecodeAfterEncode : Prop :=
  ∀ i : Instr, i.wf = true → decode (encode i) = i

/-- A frame is kept bit for bit by decoding and encoding it: "The four fields do not overlap, and together
they cover all 64 bits" (R60). -/
def Obligations.EncodeAfterDecodeFrame : Prop :=
  ∀ f : Frame, encode (decodeFrame f) = .frame f

/-- The decoder gives only instructions the port can present: the range check of FR_LOAD never fires, and
TURN's angle is an s16 (R83, R84, D9, D10). -/
def Obligations.DecodedInstructionIsWellFormed : Prop :=
  ∀ c : Code, (decode c).wf = true

/-- Every code fits the table row of the instruction it decodes to, and no other row of the table (R81, R66,
R82, R74). -/
def Obligations.DecodePicksTheOneTableRow : Prop :=
  ∀ (c : Code) (row : OpcodeRow),
    instrRow (decode c) ∈ opcodeTable ∧ rowMatches (instrRow (decode c)) c = true ∧
      (row ∈ opcodeTable → rowMatches row c = true → row = instrRow (decode c))

/-- Operands and operand bits that an operation does not read do not matter (R81's "reads" column, R84). -/
def Obligations.UnreadOperandBitsAreIgnored : Prop :=
  ∀ (r : Request) (a : BitVec 64) (b c : BitVec 16),
    (r.op ∈ [0x00#5, 0x06#5, 0x07#5, 0x08#5, 0x09#5, 0x0A#5, 0x0B#5, 0x0D#5, 0x0E#5, 0x0F#5,
        0x1B#5, 0x1C#5, 0x1D#5, 0x1E#5, 0x1F#5] →
      decodeRequest { r with a := a, b := b, c := c } = decodeRequest r) ∧
    (r.op ∈ [0x01#5, 0x02#5, 0x03#5, 0x04#5, 0x05#5, 0x13#5] →
      decodeRequest { r with b := b, c := c } = decodeRequest r) ∧
    (r.op ∈ [0x0C#5, 0x10#5, 0x11#5, 0x12#5, 0x17#5] → decodeRequest { r with c := c } = decodeRequest r) ∧
    (r.op ∈ [0x14#5, 0x15#5, 0x16#5, 0x18#5, 0x1A#5] → b.toNat % 256 = r.b.toNat % 256 →
      decodeRequest { r with b := b, c := c } = decodeRequest r) ∧
    (r.op = 0x19#5 → b.toNat % 256 = r.b.toNat % 256 → decodeRequest { r with b := b } = decodeRequest r)

/-- Words written out in 95_test_vectors.md, Part 3, and frames of Part 1 decode to what they stand for. How a
length picks the format is log 10. -/
def Obligations.SpecWordsDecode : Prop :=
  decodeTableWord 104 0x0000009A400000000000000010 = some (.encMove 0 1234) ∧
  decodeTableWord 104 0x00000000160000000000269001 = some (.frLoad 0xB000000000013480) ∧
  decodeTableWord 104 0x00000007000000000007F2E16C = some (.crc8 0x3F970B 56) ∧
  decodeTableWord 104 0x00001000000000000000000072 = some (.encTurn 3 (-32768)) ∧
  decodeTableWord 104 0x00348000200000000000000039 = some (.encResponse 1 1 420) ∧
  decodeTableWord 8 0x0D = some .decVerify ∧
  decodeTableWord 8 0x1F = some .reserved1F ∧
  decodeTableWord 64 0x4F00000000013480 = some (.frameMove 0 1234 0x4F) ∧
  decodeTableWord 64 0xB40000000000003C = some (.frameUnassignedF 0 0 0xB4)

/-- A step runs the instruction whose word stands where the core takes its next one: the accepted request's
word, or, for DEC_PARAMS, the frame in FR. Around `exec` the step only reads the cycle's inputs. That a frame
is run by DEC_PARAMS is the model's reading (log 9), as is the cycle (log 1). -/
def Obligations.StepRunsTheDecodedInstruction : Prop :=
  ∀ (s : State) (i : Instr), s.busy = true → s.rspValid = false →
    (currentCycle s).reset = false → (currentCycle s).wait = false → i.wf = true →
    (encode i = .req (packRequest s.req) → step s = exec i (dropCycle s)) ∧
    (encode i = .frame s.fr → s.req.op = 0x0E#5 → step s = exec i (dropCycle s))

/-- A table word placed by `withFetchWord` is run by the very next step (log 11). -/
def Obligations.PlacedWordRunsNext : Prop :=
  ∀ (s : State) (nbits w : Nat) (i : Instr), decodeTableWord nbits w = some i →
    step (s.withFetchWord nbits w) = exec i (dropCycle (s.withFetchWord nbits w))

/-! ### Frame register operations (41_frame_ops.md) -/

/-- FR_CLEAR and FR_LOAD write all of FR and answer it (R120, R121); a value of 2^64 or more, which the port
cannot present, is a range error (R121). -/
def Obligations.ConstructorsWriteTheWholeFrame : Prop :=
  requestNames 0x00 (fun _ => .frClear) ∧ requestNames 0x01 (fun r => .frLoad r.a.toNat) ∧
  ∀ (s : State) (a : Nat),
    exec .frClear s = .next (answered s 0 s.engine (dataResponse 0)) ∧
    (a < 2 ^ 64 →
      exec (.frLoad a) s =
        .next (answered s (BitVec.ofNat 64 a) s.engine (dataResponse (BitVec.ofNat 64 a)))) ∧
    (2 ^ 64 ≤ a → exec (.frLoad a) s = .next (answeredOnly s (errorResponse .rangeError)))

/-- The checked setters replace the bits of their own field and no other bit, and answer the new FR; a value
that does not fit is a range error that leaves FR (R122, R123, R125). -/
def Obligations.CheckedSettersReplaceOnlyTheirField : Prop :=
  requestNames 0x02 (fun r => .frSetAddr r.a.toNat) ∧ requestNames 0x03 (fun r => .frSetCmd r.a.toNat) ∧
  requestNames 0x05 (fun r => .frSetCsum r.a.toNat) ∧
  ∀ (s : State) (a : Nat),
    (a < 4 → ∃ f : Frame, exec (.frSetAddr a) s = .next (answered s f s.engine (dataResponse f)) ∧
      ∀ i < 64, f.getLsbD i = if i < 2 then a.testBit i else s.fr.getLsbD i) ∧
    (4 ≤ a → exec (.frSetAddr a) s = .next (answeredOnly s (errorResponse .rangeError))) ∧
    (a < 16 → ∃ f : Frame, exec (.frSetCmd a) s = .next (answered s f s.engine (dataResponse f)) ∧
      ∀ i < 64, f.getLsbD i = if 2 ≤ i ∧ i < 6 then a.testBit (i - 2) else s.fr.getLsbD i) ∧
    (16 ≤ a → exec (.frSetCmd a) s = .next (answeredOnly s (errorResponse .rangeError))) ∧
    (a < 256 → ∃ f : Frame, exec (.frSetCsum a) s = .next (answered s f s.engine (dataResponse f)) ∧
      ∀ i < 64, f.getLsbD i = if 56 ≤ i then a.testBit (i - 56) else s.fr.getLsbD i) ∧
    (256 ≤ a → exec (.frSetCsum a) s = .next (answeredOnly s (errorResponse .rangeError)))

/-- FR_SET_PARAM always succeeds and stores A[49:0] in FR[55:6]; A[63:50] is discarded (R124). -/
def Obligations.SetParameterTruncates : Prop :=
  requestNames 0x04 (fun r => .frSetParam r.a.toNat) ∧
  ∀ (s : State) (a : Nat), ∃ f : Frame,
    exec (.frSetParam a) s = .next (answered s f s.engine (dataResponse f)) ∧
    ∀ i < 64, f.getLsbD i = if 6 ≤ i ∧ i < 56 then a.testBit (i - 6) else s.fr.getLsbD i

/-- Each getter answers its field of FR, zero-extended, and changes nothing else (R126 to R131). -/
def Obligations.GettersAnswerTheirField : Prop :=
  requestNames 0x06 (fun _ => .frGetAddr) ∧ requestNames 0x07 (fun _ => .frGetCmd) ∧
  requestNames 0x08 (fun _ => .frGetParam) ∧ requestNames 0x09 (fun _ => .frGetCsum) ∧
  requestNames 0x0A (fun _ => .frGetPayload) ∧ requestNames 0x0B (fun _ => .frGetRaw) ∧
  ∀ s : State,
    exec .frGetAddr s = .next (answeredOnly s (dataResponse (BitVec.ofNat 64 (s.fr.toNat % 4)))) ∧
    exec .frGetCmd s = .next (answeredOnly s (dataResponse (BitVec.ofNat 64 (s.fr.toNat / 4 % 16)))) ∧
    exec .frGetParam s =
      .next (answeredOnly s (dataResponse (BitVec.ofNat 64 (s.fr.toNat / 64 % 2 ^ 50)))) ∧
    exec .frGetCsum s = .next (answeredOnly s (dataResponse (BitVec.ofNat 64 (s.fr.toNat / 2 ^ 56)))) ∧
    exec .frGetPayload s = .next (answeredOnly s (dataResponse (BitVec.ofNat 64 (s.fr.toNat % 2 ^ 56)))) ∧
    exec .frGetRaw s = .next (answeredOnly s (dataResponse s.fr))

/-- Setting the four fields in any order gives the same FR, whose fields are the values set (R132, R60). -/
def Obligations.SettersInAnyOrderBuildTheFrame : Prop :=
  ∀ (s : State) (a k p x : Nat) (l : List Instr), a < 4 → k < 16 → x < 256 →
    l.Perm [.frSetAddr a, .frSetCmd k, .frSetParam p, .frSetCsum x] →
    ∃ t, execAll l s = .next t ∧
      t.fr.toNat = a + 4 * k + 64 * (p % 2 ^ 50) + 2 ^ 56 * x

/-- A setter is read back by its getter and changes no other field's getter result (R132). -/
def Obligations.SetterThenGetter : Prop :=
  ∀ (s t : State) (a : Nat),
    (a < 4 → exec (.frSetAddr a) s = .next t →
      exec .frGetAddr t = .next (answeredOnly t (dataResponse (BitVec.ofNat 64 a))) ∧
      frameCommand t.fr = frameCommand s.fr ∧ frameParameter t.fr = frameParameter s.fr ∧
      frameChecksum t.fr = frameChecksum s.fr) ∧
    (a < 16 → exec (.frSetCmd a) s = .next t →
      exec .frGetCmd t = .next (answeredOnly t (dataResponse (BitVec.ofNat 64 a))) ∧
      frameAddress t.fr = frameAddress s.fr ∧ frameParameter t.fr = frameParameter s.fr ∧
      frameChecksum t.fr = frameChecksum s.fr) ∧
    (exec (.frSetParam a) s = .next t →
      exec .frGetParam t = .next (answeredOnly t (dataResponse (BitVec.ofNat 64 (a % 2 ^ 50)))) ∧
      frameAddress t.fr = frameAddress s.fr ∧ frameCommand t.fr = frameCommand s.fr ∧
      frameChecksum t.fr = frameChecksum s.fr) ∧
    (a < 256 → exec (.frSetCsum a) s = .next t →
      exec .frGetCsum t = .next (answeredOnly t (dataResponse (BitVec.ofNat 64 a))) ∧
      framePayload t.fr = framePayload s.fr)

/-- The setters do not restamp: changing the address, the command code or the checksum of a valid frame
makes it invalid, always (R133, R255 with R62). FR_SET_CMD may change up to four bits and FR_SET_CSUM eight, so
R105 (f) does not carry this: that the CRC never misses such a change follows from its definition (R101,
R102). -/
def Obligations.FieldChangeMakesAValidFrameInvalid : Prop :=
  ∀ (s t : State) (a : Nat), frameValid s.fr → t.fr ≠ s.fr →
    (exec (.frSetAddr a) s = .next t ∨ exec (.frSetCmd a) s = .next t ∨ exec (.frSetCsum a) s = .next t) →
    ¬ frameValid t.fr

/-! ### The CRC (40_crc8_engine.md) -/

/-- The engine takes exactly w steps and then holds `crc8(v, w)` (R103). -/
def Obligations.EngineTakesWidthStepsToTheCrc : Prop :=
  ∀ (v : BitVec 64) (w : BitVec 16),
    (∀ n ≤ w.toNat, (engineSteps n (engineStart v w)).idx.toNat = w.toNat - n) ∧
    engineRun (engineStart v w) = engineDone v w.toNat

/-- However many engine steps fit in a clock cycle, enough cycles give the same result (R103, R7: "no result
depends on it"). -/
def Obligations.CrcBitsPerStepChangesNoResult : Prop :=
  ∀ (v : BitVec 64) (w : BitVec 16) (bitsPerStep cycles : Nat), 0 < bitsPerStep →
    w.toNat ≤ bitsPerStep * cycles →
    engineCycles bitsPerStep cycles (engineStart v w) = engineDone v w.toNat

/-- CRC8 answers `zext_64(crc8(A, B))`, and writes nothing but the engine (R104). -/
def Obligations.Crc8AnswersTheCrc : Prop :=
  requestNames 0x0C (fun r => .crc8 r.a.toNat r.b) ∧
  ∀ (s : State) (v : Nat) (w : BitVec 16), v < 2 ^ 64 →
    ∃ e, exec (.crc8 v w) s = .next (answered s s.fr e (dataResponse ((crc8 v w.toNat).setWidth 64)))

/-- What the engine holds once CRC8, DEC_VERIFY or an encoder operation has run: the end of that
computation, with the value latched in SRC and IDX at 0. R103's pseudocode leaves these values; that they stay
between requests is the model's reading (log 6; 93_implementation_defined.md I9 allows any value). -/
def Obligations.EngineHoldsItsLastComputation : Prop :=
  ∀ s t : State,
    (∀ (v : Nat) (w : BitVec 16), v < 2 ^ 64 → exec (.crc8 v w) s = .next t →
      t.engine = engineDone (BitVec.ofNat 64 v) w.toNat) ∧
    (exec .decVerify s = .next t → t.engine = engineDone (BitVec.ofNat 64 (s.fr.toNat % 2 ^ 56)) 56) ∧
    (∀ (a : Nat) (v : Variant), a < 4 → exec (encoderFor a v) s = .next t →
      t.engine = engineDone (BitVec.ofNat 64 (t.fr.toNat % 2 ^ 56)) 56)

/-- Laws (a), (b) and (d) of R105: width or value 0 gives 0, leading zeros do not matter, and only the low w
bits are read. The last clause rests on 92_eei_decisions.md D11, the spec's own reading that the window is
the w low bits (93_implementation_defined.md I12). -/
def Obligations.CrcReadsOnlyItsWindow : Prop :=
  ∀ v w k : Nat,
    crc8 v 0 = 0 ∧ crc8 0 w = 0 ∧ (v < 2 ^ k → k ≤ w → crc8 v w = crc8 v k) ∧
    crc8 v w = crc8 (v % 2 ^ w) w

/-- Law (c) of R105. -/
def Obligations.CrcIsLinear : Prop :=
  ∀ v1 v2 w : Nat, crc8 (v1 ^^^ v2) w = crc8 v1 w ^^^ crc8 v2 w

/-- Law (e) of R105. -/
def Obligations.AppendingTheCrcGivesZero : Prop :=
  ∀ v w : Nat, crc8 ((v <<< 8) ||| (crc8 v w).toNat) (w + 8) = 0

/-- Law (f) of R105 and R204: no single-bit and no double-bit change of a valid frame is valid. -/
def Obligations.OneAndTwoBitErrorsAreDetected : Prop :=
  ∀ (f : Frame) (i j : Nat), frameValid f → i < 64 → j < 64 →
    ¬ frameValid (f ^^^ (1#64 <<< i)) ∧
    (i ≠ j → ¬ frameValid (f ^^^ (1#64 <<< i) ^^^ (1#64 <<< j)))

/-- The CRC is the remainder of `v(x) * x^8` divided by `x^8 + x^2 + x + 1` over GF(2). R107, which the spec
marks as general knowledge (93_implementation_defined.md G3), to be proved of R101's definition. -/
def Obligations.CrcIsThePolynomialRemainder : Prop :=
  ∀ v w : Nat,
    Polynomial.modByMonic
      ((∑ i ∈ Finset.range w, if v.testBit i then (Polynomial.X : Polynomial (ZMod 2)) ^ i else 0) *
        Polynomial.X ^ 8)
      (Polynomial.X ^ 8 + Polynomial.X ^ 2 + Polynomial.X + 1) =
    ∑ i ∈ Finset.range 8, if (crc8 v w).getLsbD i then (Polynomial.X : Polynomial (ZMod 2)) ^ i else 0

/-! ### The parameter schema (42_param_schema.md) -/

/-- The pack rules, as numbers (R151 to R161). -/
def Obligations.PackRules : Prop :=
  (∀ d, (pack (.move d)).toNat = d.toNat) ∧
  (∀ d, (pack (.reverse d)).toNat = d.toNat) ∧
  (∀ n : Int, -32768 ≤ n → n ≤ 32767 → ((pack (.turn n)).toNat : Int) = if 0 ≤ n then n else n + 65536) ∧
  pack .stop = 0 ∧
  (∀ x, (pack (.info x)).toNat = x.toNat) ∧
  (∀ x, (pack (.ping x)).toNat = x.toNat) ∧
  (∀ x, (pack (.pong x)).toNat = x.toNat) ∧
  (∀ x, (pack (.error x)).toNat = x.toNat) ∧
  (∀ x, (pack (.poll x)).toNat = x.toNat) ∧
  (∀ x d, (pack (.response x d)).toNat = 256 * d.toNat + x.toNat) ∧
  (∀ x, (pack (.crane x)).toNat = x.toNat)

/-- The unpack rules and the dispatch, as numbers (R162 to R173). -/
def Obligations.UnpackRules : Prop :=
  ∀ p : Param,
    unpackDispatch 0x0 p = some (.move (BitVec.ofNat 16 (p.toNat % 65536))) ∧
    unpackDispatch 0x1 p = some (.reverse (BitVec.ofNat 16 (p.toNat % 65536))) ∧
    unpackDispatch 0x2 p = some (.turn (if p.toNat % 65536 < 32768 then (p.toNat % 65536 : Int)
      else (p.toNat % 65536 : Int) - 65536)) ∧
    unpackDispatch 0x3 p = some .stop ∧
    unpackDispatch 0x4 p = some (.info (BitVec.ofNat 8 (p.toNat % 256))) ∧
    unpackDispatch 0x5 p = some (.ping (BitVec.ofNat 8 (p.toNat % 256))) ∧
    unpackDispatch 0x6 p = some (.pong (BitVec.ofNat 8 (p.toNat % 256))) ∧
    unpackDispatch 0x7 p = some (.error (BitVec.ofNat 16 (p.toNat % 65536))) ∧
    unpackDispatch 0x8 p = some (.poll (BitVec.ofNat 8 (p.toNat % 256))) ∧
    unpackDispatch 0x9 p = some (.response (BitVec.ofNat 8 (p.toNat % 256))
      (BitVec.ofNat 16 (p.toNat / 256 % 65536))) ∧
    unpackDispatch 0xA p = some (.crane (BitVec.ofNat 8 (p.toNat % 256))) ∧
    ∀ k : Cmd, 11 ≤ k.toNat → unpackDispatch k p = none

/-- Round trip of R174. -/
def Obligations.UnpackAfterPack : Prop :=
  ∀ v : Variant, v.wf = true → unpackDispatch (variantCode v) (pack v) = some v

/-- R175: packing what was unpacked keeps the used bits and clears the unused ones; and what is unpacked is
a variant of that command, in its domain. -/
def Obligations.PackAfterUnpackKeepsTheUsedBits : Prop :=
  ∀ (k : Cmd) (p : Param) (v : Variant), unpackDispatch k p = some v →
    (pack v).toNat = p.toNat % 2 ^ usedBits k ∧ variantCode v = k ∧ v.wf = true

/-! ### The encoder (43_encoder_ops.md) -/

/-- ENC_MOVE, ENC_REVERSE, ENC_TURN and ENC_ERROR (R181, R182, R183, R188): FR and D0 hold the stamped
frame; an address of 4 or more is a range error that leaves FR. -/
def Obligations.EncodersOfSixteenBitFields : Prop :=
  requestNames 0x10 (fun r => .encMove r.a.toNat r.b) ∧ requestNames 0x11 (fun r => .encReverse r.a.toNat r.b) ∧
  requestNames 0x12 (fun r => .encTurn r.a.toNat r.b.toInt) ∧
  requestNames 0x17 (fun r => .encError r.a.toNat r.b) ∧
  ∀ (s : State) (a : Nat) (d : BitVec 16) (n : Int), -32768 ≤ n → n ≤ 32767 →
    (a < 4 →
      (∃ e, exec (.encMove a d) s = .next (encoded s e 0x0 a d.toNat)) ∧
      (∃ e, exec (.encReverse a d) s = .next (encoded s e 0x1 a d.toNat)) ∧
      (∃ e, exec (.encTurn a n) s = .next (encoded s e 0x2 a (n % 65536).toNat)) ∧
      (∃ e, exec (.encError a d) s = .next (encoded s e 0x7 a d.toNat))) ∧
    (4 ≤ a →
      exec (.encMove a d) s = .next (answeredOnly s (errorResponse .rangeError)) ∧
      exec (.encReverse a d) s = .next (answeredOnly s (errorResponse .rangeError)) ∧
      exec (.encTurn a n) s = .next (answeredOnly s (errorResponse .rangeError)) ∧
      exec (.encError a d) s = .next (answeredOnly s (errorResponse .rangeError)))

/-- ENC_INFO, ENC_PING, ENC_PONG, ENC_POLL and ENC_CRANE (R185, R186, R187, R189, R191). -/
def Obligations.EncodersOfEightBitFields : Prop :=
  requestNames 0x14 (fun r => .encInfo r.a.toNat (lowB r)) ∧
  requestNames 0x15 (fun r => .encPing r.a.toNat (lowB r)) ∧
  requestNames 0x16 (fun r => .encPong r.a.toNat (lowB r)) ∧
  requestNames 0x18 (fun r => .encPoll r.a.toNat (lowB r)) ∧
  requestNames 0x1A (fun r => .encCrane r.a.toNat (lowB r)) ∧
  ∀ (s : State) (a : Nat) (x : BitVec 8),
    (a < 4 →
      (∃ e, exec (.encInfo a x) s = .next (encoded s e 0x4 a x.toNat)) ∧
      (∃ e, exec (.encPing a x) s = .next (encoded s e 0x5 a x.toNat)) ∧
      (∃ e, exec (.encPong a x) s = .next (encoded s e 0x6 a x.toNat)) ∧
      (∃ e, exec (.encPoll a x) s = .next (encoded s e 0x8 a x.toNat)) ∧
      (∃ e, exec (.encCrane a x) s = .next (encoded s e 0xA a x.toNat))) ∧
    (4 ≤ a →
      exec (.encInfo a x) s = .next (answeredOnly s (errorResponse .rangeError)) ∧
      exec (.encPing a x) s = .next (answeredOnly s (errorResponse .rangeError)) ∧
      exec (.encPong a x) s = .next (answeredOnly s (errorResponse .rangeError)) ∧
      exec (.encPoll a x) s = .next (answeredOnly s (errorResponse .rangeError)) ∧
      exec (.encCrane a x) s = .next (answeredOnly s (errorResponse .rangeError)))

/-- ENC_STOP, whose parameter field is 0, and ENC_RESPONSE, which packs two fields (R184, R190). -/
def Obligations.EncodersOfStopAndResponse : Prop :=
  requestNames 0x13 (fun r => .encStop r.a.toNat) ∧
  requestNames 0x19 (fun r => .encResponse r.a.toNat (lowB r) r.c) ∧
  ∀ (s : State) (a : Nat) (x : BitVec 8) (d : BitVec 16),
    (a < 4 →
      (∃ e, exec (.encStop a) s = .next (encoded s e 0x3 a 0)) ∧
      (∃ e, exec (.encResponse a x d) s = .next (encoded s e 0x9 a (x.toNat + 256 * d.toNat)))) ∧
    (4 ≤ a →
      exec (.encStop a) s = .next (answeredOnly s (errorResponse .rangeError)) ∧
      exec (.encResponse a x d) s = .next (answeredOnly s (errorResponse .rangeError)))

/-- R180: "For addr < 4 the result equals the source's sequence on a fresh frame": FR_CLEAR, the three
setters, and then STAMP (R91). -/
def Obligations.EncoderEqualsTheSetterSequence : Prop :=
  ∀ (s : State) (a : Nat) (v : Variant), a < 4 → v.wf = true →
    ∃ t u stamp w,
      exec (encoderFor a v) s = .next t ∧
      execAll [.frClear, .frSetAddr a, .frSetCmd (variantCode v).toNat, .frSetParam (pack v).toNat] s =
        .next u ∧
      assemble .stamp = some stamp ∧ serveRequests stamp 0 u = .next w ∧ w.fr = t.fr

/-- R203, R192: `decode(ENC_k(a, v)) = (a, k, v, 1)`, through the request sequence of R203 run from any
state. -/
def Obligations.DecodeRunAfterEncoder : Prop :=
  ∀ (s s' : State) (a : Nat) (v : Variant), a < 4 → v.wf = true →
    ∃ t, exec (encoderFor a v) s = .next t ∧ frameValid t.fr ∧
      decodeRun t.fr s' =
        some ([dataResponse t.fr, dataResponse (BitVec.ofNat 64 a),
          dataResponse ((variantCode v).setWidth 64),
          { status := 0, tag := variantCode v, d0 := variantD0 v, d1 := variantD1 v },
          dataResponse 1], t.fr)

/-! ### The decoder (44_decoder_ops.md) -/

/-- DEC_VERIFY answers 1 if FR is valid and 0 if not, never an error; FR is not written (R200, R225). -/
def Obligations.DecVerifyAnswersValidity : Prop :=
  requestNames 0x0D (fun _ => .decVerify) ∧
  ∀ s : State, ∃ e,
    exec .decVerify s = .next (answered s s.fr e
      (dataResponse (if (crc8 (s.fr.toNat % 2 ^ 56) 56).toNat = s.fr.toNat / 2 ^ 56 then 1 else 0)))

/-- DEC_PARAMS answers the command code and the fields, or UNKNOWN_COMMAND; it writes no state and does not
look at the checksum (R201). -/
def Obligations.DecParamsAnswersTheVariant : Prop :=
  requestNames 0x0E (fun _ => .decParams) ∧
  ∀ (s : State) (k p : Nat), k = s.fr.toNat / 4 % 16 → p = s.fr.toNat / 64 % 2 ^ 50 →
    (k = 0 ∨ k = 1 ∨ k = 7 → exec .decParams s = .next (answeredOnly s
      { status := 0, tag := BitVec.ofNat 4 k, d0 := BitVec.ofNat 64 (p % 65536), d1 := 0 })) ∧
    (k = 2 → exec .decParams s = .next (answeredOnly s
      { status := 0, tag := 2,
        d0 := BitVec.ofInt 64 (if p % 65536 < 32768 then (p % 65536 : Int) else (p % 65536 : Int) - 65536),
        d1 := 0 })) ∧
    (k = 3 → exec .decParams s = .next (answeredOnly s { status := 0, tag := 3, d0 := 0, d1 := 0 })) ∧
    (k = 4 ∨ k = 5 ∨ k = 6 ∨ k = 8 ∨ k = 10 → exec .decParams s = .next (answeredOnly s
      { status := 0, tag := BitVec.ofNat 4 k, d0 := BitVec.ofNat 64 (p % 256), d1 := 0 })) ∧
    (k = 9 → exec .decParams s = .next (answeredOnly s
      { status := 0, tag := 9, d0 := BitVec.ofNat 64 (p % 256), d1 := BitVec.ofNat 16 (p / 256 % 65536) })) ∧
    (11 ≤ k → exec .decParams s = .next (answeredOnly s (errorResponse .unknownCommand)))

/-- The sixteen frame rows of the opcode table (R162 to R173 with R201's report). That a frame is an
instruction of its own, executed as DEC_PARAMS's arm, is the model's reading (log 9). -/
def Obligations.FrameWordsAnswerTheirVariant : Prop :=
  ∀ (s : State) (a : Addr) (p : Param) (x : Csum) (n : Int),
    n = (if p.toNat % 65536 < 32768 then (p.toNat % 65536 : Int) else (p.toNat % 65536 : Int) - 65536) →
    exec (.frameMove a p x) s = .next (answeredOnly s ⟨0, 0, BitVec.ofNat 64 (p.toNat % 65536), 0⟩) ∧
    exec (.frameReverse a p x) s = .next (answeredOnly s ⟨0, 1, BitVec.ofNat 64 (p.toNat % 65536), 0⟩) ∧
    exec (.frameTurn a p x) s = .next (answeredOnly s ⟨0, 2, BitVec.ofInt 64 n, 0⟩) ∧
    exec (.frameStop a p x) s = .next (answeredOnly s ⟨0, 3, 0, 0⟩) ∧
    exec (.frameInfo a p x) s = .next (answeredOnly s ⟨0, 4, BitVec.ofNat 64 (p.toNat % 256), 0⟩) ∧
    exec (.framePing a p x) s = .next (answeredOnly s ⟨0, 5, BitVec.ofNat 64 (p.toNat % 256), 0⟩) ∧
    exec (.framePong a p x) s = .next (answeredOnly s ⟨0, 6, BitVec.ofNat 64 (p.toNat % 256), 0⟩) ∧
    exec (.frameError a p x) s = .next (answeredOnly s ⟨0, 7, BitVec.ofNat 64 (p.toNat % 65536), 0⟩) ∧
    exec (.framePoll a p x) s = .next (answeredOnly s ⟨0, 8, BitVec.ofNat 64 (p.toNat % 256), 0⟩) ∧
    exec (.frameResponse a p x) s = .next (answeredOnly s
      ⟨0, 9, BitVec.ofNat 64 (p.toNat % 256), BitVec.ofNat 16 (p.toNat / 256 % 65536)⟩) ∧
    exec (.frameCrane a p x) s = .next (answeredOnly s ⟨0, 10, BitVec.ofNat 64 (p.toNat % 256), 0⟩) ∧
    exec (.frameUnassignedB a p x) s = .next (answeredOnly s (errorResponse .unknownCommand)) ∧
    exec (.frameUnassignedC a p x) s = .next (answeredOnly s (errorResponse .unknownCommand)) ∧
    exec (.frameUnassignedD a p x) s = .next (answeredOnly s (errorResponse .unknownCommand)) ∧
    exec (.frameUnassignedE a p x) s = .next (answeredOnly s (errorResponse .unknownCommand)) ∧
    exec (.frameUnassignedF a p x) s = .next (answeredOnly s (errorResponse .unknownCommand))

/-- DEC_PARAMS executes the frame in FR, as the frame instruction FR decodes to (R201, R173; log 9). -/
def Obligations.DecParamsExecutesTheFrame : Prop :=
  ∀ s : State, exec .decParams s = exec (decodeFrame s.fr) s

/-- R204: if DEC_VERIFY answers 1 for a frame, it answers 0 once the checksum byte is flipped. -/
def Obligations.FlippedChecksumFailsVerify : Prop :=
  ∀ s t u : State, exec .decVerify s = .next t → t.rsp.d0 = 1 →
    exec .decVerify { s with fr := s.fr ^^^ 0xFF00000000000000#64 } = .next u → u.rsp = dataResponse 0

/-! ### Errors (60_exceptions.md) -/

/-- A reserved op code answers ILLEGAL_OP, whatever its operands, and changes no state (R82, R223). -/
def Obligations.ReservedOpsAnswerIllegalOp : Prop :=
  ∀ (s : State) (r : Request) (i : Instr),
    (i = .reserved0F ∨ i = .reserved1B ∨ i = .reserved1C ∨ i = .reserved1D ∨ i = .reserved1E ∨
        i = .reserved1F →
      exec i s = .next (answeredOnly s (errorResponse .illegalOp))) ∧
    (r.op = 0x0F#5 ∨ 0x1B ≤ r.op.toNat →
      exec (decodeRequest r) s = .next (answeredOnly s (errorResponse .illegalOp)))

/-- R221, R222 and R223: each error status is raised by exactly the cases listed. -/
def Obligations.ErrorStatusesHaveExactlyTheirCauses : Prop :=
  ∀ (r : Request) (s t : State), exec (decodeRequest r) s = .next t →
    (t.rsp.status = statusCode .rangeError ↔
      (r.op = 0x01#5 ∧ 2 ^ 64 ≤ r.a.toNat) ∨ (r.op = 0x02#5 ∧ 4 ≤ r.a.toNat) ∨
      (r.op = 0x03#5 ∧ 16 ≤ r.a.toNat) ∨ (r.op = 0x05#5 ∧ 256 ≤ r.a.toNat) ∨
      (0x10 ≤ r.op.toNat ∧ r.op.toNat ≤ 0x1A ∧ 4 ≤ r.a.toNat)) ∧
    (t.rsp.status = statusCode .unknownCommand ↔ r.op = 0x0E#5 ∧ 0xB ≤ s.fr.toNat / 4 % 16) ∧
    (t.rsp.status = statusCode .illegalOp ↔ r.op = 0x0F#5 ∨ 0x1B ≤ r.op.toNat)

/-- R224: a request that raises an error writes no state but the response, which is
`respond(status, 0, 0, 0)`; the engine is not started. -/
def Obligations.ErrorsWriteNoState : Prop :=
  ∀ (i : Instr) (s t : State), exec i s = .next t → t.rsp.status ≠ 0 →
    t = answeredOnly s { status := t.rsp.status, tag := 0, d0 := 0, d1 := 0 }

/-- Every instruction is answered, in every state, and beside FR, the engine and the response it changes
nothing: no trap, no stop, no mode (R83, R226, R228). -/
def Obligations.EveryInstructionIsAnswered : Prop :=
  ∀ (i : Instr) (s : State), ∃ t, exec i s = .next t ∧ t.rspValid = true ∧
    t = answered s t.fr t.engine t.rsp

/-- No step stops: no fault and no refusal. This is the model's reading (log 15): an error is a response (R228),
and the core R256 calls stuck is a state in which steps, one a port cycle (log 1), go on. -/
def Obligations.EveryStepGoesOn : Prop :=
  ∀ s : State, ∃ t, step s = .next t

/-! ### The whole machine (10_state.md, 20_memory.md) -/

/-- R21: who writes FR and who reads it. Only FR_CLEAR, FR_LOAD, FR_SET_* and ENC_* write it; a setter
leaves every bit outside its field; an error leaves it; the others' answers do not depend on it; FR_CLEAR,
FR_LOAD and ENC_* write all 64 bits; and it holds its value from one request to the next. The last clause is
about steps, a step being one port cycle, and takes in the cycles an accepted request waits for LATENCY: that
much is the model's (log 1). -/
def Obligations.FrHasExactlyItsWritersAndReaders : Prop :=
  (∀ (r : Request) (s t : State), exec (decodeRequest r) s = .next t →
    ((0x06 ≤ r.op.toNat ∧ r.op.toNat ≤ 0x0F) ∨ 0x1B ≤ r.op.toNat → t.fr = s.fr) ∧
    (t.rsp.status ≠ 0 → t.fr = s.fr) ∧
    (∀ i < 64, (r.op = 0x02#5 ∧ 2 ≤ i) ∨ (r.op = 0x03#5 ∧ (i < 2 ∨ 6 ≤ i)) ∨
        (r.op = 0x04#5 ∧ (i < 6 ∨ 56 ≤ i)) ∨ (r.op = 0x05#5 ∧ i < 56) →
      t.fr.getLsbD i = s.fr.getLsbD i) ∧
    (r.op.toNat ≤ 1 ∨ r.op = 0x0C#5 ∨ 0x0F ≤ r.op.toNat →
      ∀ (f : Frame) (u : State), exec (decodeRequest r) { s with fr := f } = .next u →
        u.rsp = t.rsp ∧ (t.rsp.status = 0 → r.op ≠ 0x0C#5 → u.fr = t.fr))) ∧
  (∀ s t : State, step s = .next t → (currentCycle s).reset = false →
    (s.busy = false ∨ s.rspValid = true ∨ (currentCycle s).wait = true) → t.fr = s.fr)

/-- What a request answers and leaves in FR depends on FR alone: not on the engine's registers (R23), and not
on a past response (R26, R28). -/
def Obligations.AnswerDependsOnlyOnFr : Prop :=
  ∀ (i : Instr) (s s' t t' : State), s.fr = s'.fr → exec i s = .next t → exec i s' = .next t' →
    t.fr = t'.fr ∧ t.rsp = t'.rsp

/-- R43: "Every operation is idempotent." The engine's registers are included (log 6). -/
def Obligations.RepeatedRequestChangesNothing : Prop :=
  ∀ (i : Instr) (s t : State), exec i s = .next t → exec i t = .next t

/-! ### The port (10_state.md R24 to R26) -/

/-- R24 and R25: a request is accepted exactly when REQ_VALID = 1 and BUSY = 0, and then OP, A, B and C are
latched and BUSY is 1; while BUSY = 1 the latched request stands. The rest is the model's choice: that a step is
one cycle (log 1), and that at acceptance and in an idle cycle the response fields stay while RSP_VALID = 0
(log 5; 93_implementation_defined.md I10 allows any value) and the engine stays between requests (log 6; I9). -/
def Obligations.RequestIsAcceptedWhenReady : Prop :=
  ∀ s t : State, (currentCycle s).reset = false → step s = .next t →
    (s.busy = false → (currentCycle s).reqValid = true →
      t = { dropCycle s with busy := true, req := (currentCycle s).req }) ∧
    (s.busy = false → (currentCycle s).reqValid = false → t = dropCycle s) ∧
    (s.busy = true → t.req = s.req)

/-- R25 and R26: a response is held until the host takes it; then BUSY and RSP_VALID return to 0 and the host
has it (in `taken`, log 3). A step is one cycle (log 1). That the engine is kept while the response is held and
at hand-off is the model's choice (log 6): I9 and R23 allow any value there. -/
def Obligations.ResponseIsHeldUntilTaken : Prop :=
  ∀ s : State, (currentCycle s).reset = false → s.busy = true → s.rspValid = true →
    ((currentCycle s).rspReady = false → step s = .next (dropCycle s)) ∧
    ((currentCycle s).rspReady = true → ∃ t, step s = .next t ∧ t.busy = false ∧ t.rspValid = false ∧
      t.taken = s.taken ++ [s.rsp] ∧ t.fr = s.fr ∧ t.engine = s.engine ∧ t.req = s.req)

/-- R258: an accepted request completes, after however many cycles the core needs (LATENCY is one more than
the number of `working` cycles), with its instruction's own effect. -/
def Obligations.AcceptedRequestCompletes : Prop :=
  ∀ (s : State) (working rest : List PortCycle) (c : PortCycle), s.busy = true → s.rspValid = false →
    s.inputs = working ++ c :: rest →
    (∀ x ∈ working, x.reset = false ∧ x.wait = true) → c.reset = false → c.wait = false →
    ∃ t, Sys2Proof.core.run (working.length + 1) s = .next t ∧ t.rspValid = true ∧
      exec (decodeRequest s.req) { s with inputs := rest } = .next t

/-- R256: a host that never takes the response leaves the core stuck. How the model shows it is its own reading:
no stop, but steps that keep the whole core, the engine included (log 15), one a port cycle (log 1), over the
listed cycles and then a quiet host (log 2). -/
def Obligations.UntakenResponseLeavesTheCoreStuck : Prop :=
  ∀ (s : State) (n : Nat), s.busy = true → s.rspValid = true →
    (∀ c ∈ s.inputs, c.reset = false ∧ c.rspReady = false) →
    Sys2Proof.core.run n s = .next { s with inputs := s.inputs.drop n }

/-- R260, with R25, R27 and R258: what a run shows (the responses in order, and the final FR) is that of its
requests executed one after another, whatever the host's timing, whatever it presents while the core is busy,
and whatever LATENCY is. Cycles and their list are the model's (log 1, log 2). -/
def Obligations.RunShowsItsRequestsInOrder : Prop :=
  ∀ (l : List TimedRequest) (s : State), Inv s → s.busy = false → (∀ x ∈ l, x.ok) →
    s.inputs = l.flatMap TimedRequest.cycles →
    ∃ t responses f, Sys2Proof.core.run s.inputs.length s = .next t ∧
      serveAll (l.map fun x => x.present.req) s = some (responses, f) ∧
      t.taken = s.taken ++ responses ∧ t.fr = f ∧ t.busy = false

/-! ### Reset (70_reset_and_hazards.md) -/

/-- R250 and R251: reset sets every register to 0 and gives no response, whatever request was outstanding.
That it does so in a cycle in which anything else is driven is the model's choice (log 17). -/
def Obligations.ResetClearsTheCore : Prop :=
  ∀ s : State, (currentCycle s).reset = true → ∃ t, step s = .next t ∧ t.fr = 0 ∧
    t.engine.crcReg = 0 ∧ t.engine.src = 0 ∧ t.engine.idx = 0 ∧ t.busy = false ∧ t.rspValid = false ∧
    t.rsp.status = 0 ∧ t.rsp.tag = 0 ∧ t.rsp.d0 = 0 ∧ t.rsp.d1 = 0 ∧ t.taken = s.taken

/-- R250: the table of the state after reset. -/
def Obligations.ResetStateIsAsTheTableSays : Prop :=
  State.reset.fr = 0 ∧ State.reset.engine.crcReg = 0 ∧ State.reset.engine.src = 0 ∧
    State.reset.engine.idx = 0 ∧ State.reset.busy = false ∧ State.reset.rspValid = false ∧
    State.reset.rsp.status = 0 ∧ State.reset.rsp.tag = 0 ∧ State.reset.rsp.d0 = 0 ∧ State.reset.rsp.d1 = 0

/-- R252: after reset, DEC_VERIFY answers 1, and DEC_PARAMS answers MOVE with distance 0. -/
def Obligations.ResetFrameIsAValidMove : Prop :=
  (∃ t, exec .decVerify State.reset = .next t ∧ t.rsp = dataResponse 1) ∧
  exec .decParams State.reset = .next (answeredOnly State.reset { status := 0, tag := 0, d0 := 0, d1 := 0 })

/-! ### The invariant -/

/-- Every step keeps the invariant: a response stands only while the core is busy (R25, R26), the engine is
idle between steps (R103; that it keeps IDX = 0 between requests is log 6, and while a request waits log 1),
and every response is one that a row of R85 allows, its D0 bounded by its TAG (R201). -/
def Obligations.StepKeepsTheInvariant : Prop :=
  ∀ s t : State, Inv s → step s = .next t → Inv t

/-- The invariant holds after reset (R250). -/
def Obligations.ResetMeetsTheInvariant : Prop := Inv State.reset

/-! ### The assembler and the wire (30_encoding.md R91, 20_memory.md R44) -/

/-- R91, R255: STAMP makes the frame valid and leaves its payload. -/
def Obligations.StampMakesTheFrameValid : Prop :=
  ∀ (s : State) (d : BitVec 64), ∃ l t, assemble .stamp = some l ∧ serveRequests l d s = .next t ∧
    frameValid t.fr ∧ framePayload t.fr = framePayload s.fr

/-- R91 and R11: a request line whose values fit its fields is that one request; ENCODE is the request line of
op code 0x10 + K, and refused for K outside 0x0 to 0xA; DEC_* are the four getters and FR_LOAD; STAMP is three
requests, whose last two carry the D0 before. That B may be negative for op code 0x12 alone is log 16. -/
def Obligations.PseudoOperationsExpand : Prop :=
  (∀ (op : BitVec 5) (a b c : AsmOperand), 0 ≤ operandValue a → operandValue a < 2 ^ 64 →
    (if op = 0x12 then -32768 else 0) ≤ operandValue b → operandValue b < 65536 →
    0 ≤ operandValue c → operandValue c < 65536 →
    ∃ r : Request, assemble (.request op a b c) = some [fun _ => r] ∧ r.op = op ∧
      (r.a.toNat : Int) = operandValue a ∧ (r.b.toNat : Int) = operandValue b % 65536 ∧
      (r.c.toNat : Int) = operandValue c) ∧
  (∀ (a cmd b c : AsmOperand), 0 ≤ operandValue cmd → operandValue cmd ≤ 10 →
    assemble (.encode a cmd b c) =
      assemble (.request (BitVec.ofNat 5 (16 + (operandValue cmd).toNat)) a b c)) ∧
  (∀ (a cmd b c : AsmOperand), operandValue cmd < 0 ∨ 10 < operandValue cmd →
    assemble (.encode a cmd b c) = none) ∧
  (∀ raw : AsmOperand, assemble (.decWrap raw) = assemble (.request 0x01 raw (.num 0) (.num 0))) ∧
  ∀ d : BitVec 64,
    (assemble .decAddress).map (List.map fun r => decodeRequest (r d)) = some [.frGetAddr] ∧
    (assemble .decCommand).map (List.map fun r => decodeRequest (r d)) = some [.frGetCmd] ∧
    (assemble .decRawParam).map (List.map fun r => decodeRequest (r d)) = some [.frGetParam] ∧
    (assemble .decChecksum).map (List.map fun r => decodeRequest (r d)) = some [.frGetCsum] ∧
    (assemble .stamp).map (List.map fun r => decodeRequest (r d)) =
      some [.frGetPayload, .crc8 d.toNat 56, .frSetCsum d.toNat]

/-- R44: with the same byte order at both ends, whichever it is, a frame crosses the wire whole. -/
def Obligations.FrameCrossesTheWireWhole : Prop :=
  ∀ (order : WireByteOrder) (f : Frame), order.valid → fromWire order (toWire order f) = f
end

