-- ==== Sys2Proof/Laws/Crc.lean ====
section
/-! SUPPORT. One step of the CRC (40_crc8_engine.md R102) and the loop over bits (R101). -/

namespace Sys2Proof.Machine

/-- `crc_step(0, 0) = 0`. -/
@[simp] theorem crcStep_zero : crcStep 0 false = 0 := rfl

/-- "crc_step is linear in (r, b)" (R105 c). -/
theorem crcStep_xor (r1 r2 : BitVec 8) (b1 b2 : Bool) :
    crcStep (r1 ^^^ r2) (b1 ^^ b2) = crcStep r1 b1 ^^^ crcStep r2 b2 := by
  have hs : (r1 ^^^ r2) <<< 1 = (r1 <<< 1) ^^^ (r2 <<< 1) := BitVec.shiftLeft_xor_distrib r1 r2 1
  rw [crcStep, crcStep, crcStep, BitVec.getLsbD_xor, hs]
  cases r1.getLsbD 7 <;> cases r2.getLsbD 7 <;> cases b1 <;> cases b2 <;> simp
  all_goals first
    | ac_rfl
    | (rw [show ∀ x y c : BitVec 8, x ^^^ c ^^^ (y ^^^ c) = x ^^^ y ^^^ (c ^^^ c) by intros; ac_rfl,
        BitVec.xor_self, BitVec.xor_zero])

/-- A run over m + n bits is a run over the upper n of them and then one over the lower m. -/
theorem crcBits_add (v m n : Nat) (r : BitVec 8) :
    crcBits v (m + n) r = crcBits v m (crcBits (v >>> m) n r) := by
  induction n generalizing r with
  | zero => rfl
  | succ n ih =>
    rw [← Nat.add_assoc, crcBits, ih, crcBits, Nat.testBit_shiftRight]

/-- A run over zeros leaves 0. -/
@[simp] theorem crcBits_zero (n : Nat) : crcBits 0 n 0 = 0 := by
  induction n with
  | zero => rfl
  | succ n ih => rw [crcBits, Nat.zero_testBit, crcStep_zero, ih]

/-- Only the bits below n are read. -/
theorem crcBits_congr {v v' n : Nat} (h : ∀ i < n, v.testBit i = v'.testBit i) (r : BitVec 8) :
    crcBits v n r = crcBits v' n r := by
  induction n generalizing r with
  | zero => rfl
  | succ n ih =>
    rw [crcBits, crcBits, h n (Nat.lt_succ_self n), ih fun i hi => h i (Nat.lt_succ_of_lt hi)]

end Sys2Proof.Machine
end

