-- ==== Sys2Proof/Laws/Frame.lean ====
section
/-! SUPPORT. The frame and the request word as concatenations: each bit of them, each field read back from a
word built of fields, and a word built again from its own fields (30_encoding.md R60, R80). -/

namespace Sys2Proof

/-! ### Bits -/

theorem stamped_bit (x : Csum) (pl : Payload) (i : Nat) :
    (stamped x pl).getLsbD i = if i < 56 then pl.getLsbD i else x.getLsbD (i - 56) := by
  have h := BitVec.getLsbD_append (x := x) (y := pl) (i := i)
  rw [show (stamped x pl).getLsbD i = _ from h]

theorem mkPayload_bit (p : Param) (k : Cmd) (a : Addr) (i : Nat) :
    (mkPayload p k a).getLsbD i =
      if i < 2 then a.getLsbD i else if i < 6 then k.getLsbD (i - 2) else p.getLsbD (i - 6) := by
  have h1 := BitVec.getLsbD_append (x := (p ++ k : BitVec (50 + 4))) (y := a) (i := i)
  have h2 := BitVec.getLsbD_append (x := p) (y := k) (i := i - 2)
  have e : i - 2 - 4 = i - 6 := by omega
  rw [show (mkPayload p k a).getLsbD i = _ from h1, h2, e]
  by_cases h : i < 2
  · simp [h]
  · by_cases h6 : i < 6
    · have : i - 2 < 4 := by omega
      simp [h, h6, this]
    · have : ¬ i - 2 < 4 := by omega
      simp [h, h6, this]

theorem mkFrame_bit (x : Csum) (p : Param) (k : Cmd) (a : Addr) (i : Nat) :
    (mkFrame x p k a).getLsbD i =
      if i < 2 then a.getLsbD i else if i < 6 then k.getLsbD (i - 2)
      else if i < 56 then p.getLsbD (i - 6) else x.getLsbD (i - 56) := by
  rw [mkFrame, stamped_bit, mkPayload_bit]
  by_cases h2 : i < 2
  · have : i < 56 := by omega
    simp [h2, this]
  · by_cases h6 : i < 6
    · have : i < 56 := by omega
      simp [h2, h6, this]
    · by_cases h56 : i < 56
      · simp [h2, h6, h56]
      · simp [h2, h6, h56]

/-- A field of w bits at offset lo, bit by bit. -/
theorem extract_bit {n : Nat} (v : BitVec n) (lo w i : Nat) :
    (v.extractLsb' lo w).getLsbD i = (decide (i < w) && v.getLsbD (lo + i)) := by
  simp [BitVec.getLsbD_extractLsb']

theorem frameAddress_bit (f : Frame) (i : Nat) :
    (frameAddress f).getLsbD i = (decide (i < 2) && f.getLsbD i) := by
  rw [frameAddress, extract_bit, Nat.zero_add]

theorem frameCommand_bit (f : Frame) (i : Nat) :
    (frameCommand f).getLsbD i = (decide (i < 4) && f.getLsbD (2 + i)) := by
  rw [frameCommand, extract_bit]

theorem frameParameter_bit (f : Frame) (i : Nat) :
    (frameParameter f).getLsbD i = (decide (i < 50) && f.getLsbD (6 + i)) := by
  rw [frameParameter, extract_bit]

theorem frameChecksum_bit (f : Frame) (i : Nat) :
    (frameChecksum f).getLsbD i = (decide (i < 8) && f.getLsbD (56 + i)) := by
  rw [frameChecksum, extract_bit]

/-! ### Numbers -/

theorem frameAddress_toNat (f : Frame) : (frameAddress f).toNat = f.toNat % 4 := by
  simp [frameAddress]

theorem frameCommand_toNat (f : Frame) : (frameCommand f).toNat = f.toNat / 4 % 16 := by
  simp [frameCommand, Nat.shiftRight_eq_div_pow]

theorem frameParameter_toNat (f : Frame) : (frameParameter f).toNat = f.toNat / 64 % 2 ^ 50 := by
  simp [frameParameter, Nat.shiftRight_eq_div_pow]

theorem frameChecksum_toNat (f : Frame) : (frameChecksum f).toNat = f.toNat / 2 ^ 56 := by
  have h := f.isLt
  simp [frameChecksum, Nat.shiftRight_eq_div_pow]
  omega

theorem framePayload_toNat (f : Frame) : (framePayload f).toNat = f.toNat % 2 ^ 56 := by
  simp [framePayload]

theorem mkPayload_toNat (p : Param) (k : Cmd) (a : Addr) :
    (mkPayload p k a).toNat = a.toNat + 4 * k.toNat + 64 * p.toNat := by
  have ha := a.isLt
  have hk := k.isLt
  have hp := p.isLt
  have h1 := BitVec.toNat_append (p ++ k : BitVec (50 + 4)) a
  have h2 := BitVec.toNat_append p k
  rw [show (mkPayload p k a).toNat = _ from h1, h2, ← Nat.shiftLeft_add_eq_or_of_lt hk,
    ← Nat.shiftLeft_add_eq_or_of_lt ha]
  simp only [Nat.shiftLeft_eq]
  omega

theorem stamped_toNat (x : Csum) (pl : Payload) : (stamped x pl).toNat = pl.toNat + 2 ^ 56 * x.toNat := by
  have h1 := BitVec.toNat_append x pl
  rw [show (stamped x pl).toNat = _ from h1, ← Nat.shiftLeft_add_eq_or_of_lt pl.isLt]
  simp only [Nat.shiftLeft_eq]
  omega

/-! ### Cases -/

/-- The sixteen command codes. -/
theorem cmd_cases (k : Cmd) :
    k = 0#4 ∨ k = 1#4 ∨ k = 2#4 ∨ k = 3#4 ∨ k = 4#4 ∨ k = 5#4 ∨ k = 6#4 ∨ k = 7#4 ∨ k = 8#4 ∨ k = 9#4 ∨
      k = 10#4 ∨ k = 11#4 ∨ k = 12#4 ∨ k = 13#4 ∨ k = 14#4 ∨ k = 15#4 := by
  revert k
  decide

/-! ### Frames -/

@[simp] theorem framePayload_stamped (x : Csum) (pl : Payload) : framePayload (stamped x pl) = pl := by
  apply BitVec.eq_of_getLsbD_eq
  intro i hi
  rw [framePayload, extract_bit, stamped_bit]
  simp [hi]

@[simp] theorem frameChecksum_stamped (x : Csum) (pl : Payload) : frameChecksum (stamped x pl) = x := by
  apply BitVec.eq_of_getLsbD_eq
  intro i hi
  rw [frameChecksum, extract_bit, stamped_bit]
  simp [hi]

@[simp] theorem frameAddress_mkFrame (x : Csum) (p : Param) (k : Cmd) (a : Addr) :
    frameAddress (mkFrame x p k a) = a := by
  apply BitVec.eq_of_getLsbD_eq
  intro i hi
  rw [frameAddress, extract_bit, mkFrame_bit]
  simp [hi]

@[simp] theorem frameCommand_mkFrame (x : Csum) (p : Param) (k : Cmd) (a : Addr) :
    frameCommand (mkFrame x p k a) = k := by
  apply BitVec.eq_of_getLsbD_eq
  intro i hi
  have h2 : ¬ 2 + i < 2 := by omega
  have h : 2 + i < 6 := by omega
  rw [frameCommand, extract_bit, mkFrame_bit, if_neg h2, if_pos h]
  simp [hi]

@[simp] theorem frameParameter_mkFrame (x : Csum) (p : Param) (k : Cmd) (a : Addr) :
    frameParameter (mkFrame x p k a) = p := by
  apply BitVec.eq_of_getLsbD_eq
  intro i hi
  have h2 : ¬ 6 + i < 2 := by omega
  have h56 : 6 + i < 56 := by omega
  rw [frameParameter, extract_bit, mkFrame_bit]
  simp [hi, h2, h56]

@[simp] theorem frameChecksum_mkFrame (x : Csum) (p : Param) (k : Cmd) (a : Addr) :
    frameChecksum (mkFrame x p k a) = x := by
  simp [mkFrame]

@[simp] theorem framePayload_mkFrame (x : Csum) (p : Param) (k : Cmd) (a : Addr) :
    framePayload (mkFrame x p k a) = mkPayload p k a := by
  simp [mkFrame]

/-- "So every 64-bit value is a frame, and `raw = {checksum, parameter, command, address}`" (R60). -/
theorem mkFrame_fields (f : Frame) :
    mkFrame (frameChecksum f) (frameParameter f) (frameCommand f) (frameAddress f) = f := by
  apply BitVec.eq_of_getLsbD_eq
  intro i hi
  rw [mkFrame_bit, frameChecksum, frameParameter, frameCommand, frameAddress]
  simp only [extract_bit]
  by_cases h2 : i < 2
  · simp [h2]
  · by_cases h6 : i < 6
    · have e : 2 + (i - 2) = i := by omega
      have l : i - 2 < 4 := by omega
      simp [h2, h6, e, l]
    · by_cases h56 : i < 56
      · have e : 6 + (i - 6) = i := by omega
        have l : i - 6 < 50 := by omega
        simp [h2, h6, h56, e, l]
      · have e : 56 + (i - 56) = i := by omega
        have l : i - 56 < 8 := by omega
        simp [h2, h6, h56, e, l]

/-- A payload is its three fields (R61). -/
theorem mkPayload_fields (f : Frame) :
    mkPayload (frameParameter f) (frameCommand f) (frameAddress f) = framePayload f := by
  rw [← framePayload_mkFrame (frameChecksum f), mkFrame_fields]

/-- A frame is its checksum over its payload. -/
theorem stamped_fields (f : Frame) : stamped (frameChecksum f) (framePayload f) = f := by
  rw [← mkPayload_fields]
  exact mkFrame_fields f

/-! ### Requests -/

theorem packRequest_bit (r : Request) (i : Nat) :
    (packRequest r).getLsbD i =
      if i < 5 then r.op.getLsbD i else if i < 69 then r.a.getLsbD (i - 5)
      else if i < 85 then r.b.getLsbD (i - 69) else r.c.getLsbD (i - 85) := by
  have h1 := BitVec.getLsbD_append (x := (r.c ++ r.b ++ r.a : BitVec (16 + 16 + 64))) (y := r.op) (i := i)
  have h2 := BitVec.getLsbD_append (x := (r.c ++ r.b : BitVec (16 + 16))) (y := r.a) (i := i - 5)
  have h3 := BitVec.getLsbD_append (x := r.c) (y := r.b) (i := i - 5 - 64)
  have e1 : i - 5 - 64 = i - 69 := by omega
  have e2 : i - 69 - 16 = i - 85 := by omega
  rw [show (packRequest r).getLsbD i = _ from h1, h2, h3, e1, e2]
  by_cases h5 : i < 5
  · simp [h5]
  · by_cases h69 : i < 69
    · have : i - 5 < 64 := by omega
      simp [h5, h69, this]
    · have h64 : ¬ i - 5 < 64 := by omega
      by_cases h85 : i < 85
      · have h16 : i - 69 < 16 := by omega
        simp only [h5, h69, h64, h85, h16, if_true, if_false]
      · have h16 : ¬ i - 69 < 16 := by omega
        simp only [h5, h69, h64, h85, h16, if_false]

@[simp] theorem unpackRequest_packRequest (r : Request) : unpackRequest (packRequest r) = r := by
  cases r with
  | mk op a b c =>
    simp only [unpackRequest, Request.mk.injEq]
    refine ⟨?_, ?_, ?_, ?_⟩ <;>
      (apply BitVec.eq_of_getLsbD_eq; intro i hi; rw [extract_bit, packRequest_bit])
    · simp [hi]
    · have h : 5 + i < 69 := by omega
      simp [hi, h]
    · have h5 : ¬ 69 + i < 5 := by omega
      have h : 69 + i < 85 := by omega
      simp [hi, h5, h]
    · have h5 : ¬ 85 + i < 5 := by omega
      have h69 : ¬ 85 + i < 69 := by omega
      simp [hi, h5, h69]

end Sys2Proof
end

