-- ==== Sys2Proof/Laws/State.lean ====
section
/-! SUPPORT. One lemma for each field of State under each named update, so that no later proof unfolds a
record update. -/

namespace Sys2Proof.Machine

/-! ### respond -/

@[simp] theorem respond_fr (st : Status) (tag : BitVec 4) (d0 : BitVec 64) (d1 : BitVec 16) (s : State) :
    (respond st tag d0 d1 s).fr = s.fr := rfl
@[simp] theorem respond_engine (st : Status) (tag : BitVec 4) (d0 : BitVec 64) (d1 : BitVec 16) (s : State) :
    (respond st tag d0 d1 s).engine = s.engine := rfl
@[simp] theorem respond_busy (st : Status) (tag : BitVec 4) (d0 : BitVec 64) (d1 : BitVec 16) (s : State) :
    (respond st tag d0 d1 s).busy = s.busy := rfl
@[simp] theorem respond_req (st : Status) (tag : BitVec 4) (d0 : BitVec 64) (d1 : BitVec 16) (s : State) :
    (respond st tag d0 d1 s).req = s.req := rfl
@[simp] theorem respond_rspValid (st : Status) (tag : BitVec 4) (d0 : BitVec 64) (d1 : BitVec 16) (s : State) :
    (respond st tag d0 d1 s).rspValid = true := rfl
@[simp] theorem respond_rsp (st : Status) (tag : BitVec 4) (d0 : BitVec 64) (d1 : BitVec 16) (s : State) :
    (respond st tag d0 d1 s).rsp = { status := statusCode st, tag := tag, d0 := d0, d1 := d1 } := rfl
@[simp] theorem respond_inputs (st : Status) (tag : BitVec 4) (d0 : BitVec 64) (d1 : BitVec 16) (s : State) :
    (respond st tag d0 d1 s).inputs = s.inputs := rfl
@[simp] theorem respond_taken (st : Status) (tag : BitVec 4) (d0 : BitVec 64) (d1 : BitVec 16) (s : State) :
    (respond st tag d0 d1 s).taken = s.taken := rfl
@[simp] theorem respond_draws (st : Status) (tag : BitVec 4) (d0 : BitVec 64) (d1 : BitVec 16) (s : State) :
    (respond st tag d0 d1 s).draws = s.draws := rfl

/-! ### dropCycle -/

@[simp] theorem dropCycle_fr (s : State) :
    (dropCycle s).fr = s.fr := rfl
@[simp] theorem dropCycle_engine (s : State) :
    (dropCycle s).engine = s.engine := rfl
@[simp] theorem dropCycle_busy (s : State) :
    (dropCycle s).busy = s.busy := rfl
@[simp] theorem dropCycle_req (s : State) :
    (dropCycle s).req = s.req := rfl
@[simp] theorem dropCycle_rspValid (s : State) :
    (dropCycle s).rspValid = s.rspValid := rfl
@[simp] theorem dropCycle_rsp (s : State) :
    (dropCycle s).rsp = s.rsp := rfl
@[simp] theorem dropCycle_inputs (s : State) :
    (dropCycle s).inputs = s.inputs.tail := rfl
@[simp] theorem dropCycle_taken (s : State) :
    (dropCycle s).taken = s.taken := rfl
@[simp] theorem dropCycle_draws (s : State) :
    (dropCycle s).draws = s.draws := rfl

/-! ### acceptRequest -/

@[simp] theorem acceptRequest_fr (r : Request) (s : State) :
    (acceptRequest r s).fr = s.fr := rfl
@[simp] theorem acceptRequest_engine (r : Request) (s : State) :
    (acceptRequest r s).engine = s.engine := rfl
@[simp] theorem acceptRequest_busy (r : Request) (s : State) :
    (acceptRequest r s).busy = true := rfl
@[simp] theorem acceptRequest_req (r : Request) (s : State) :
    (acceptRequest r s).req = r := rfl
@[simp] theorem acceptRequest_rspValid (r : Request) (s : State) :
    (acceptRequest r s).rspValid = s.rspValid := rfl
@[simp] theorem acceptRequest_rsp (r : Request) (s : State) :
    (acceptRequest r s).rsp = s.rsp := rfl
@[simp] theorem acceptRequest_inputs (r : Request) (s : State) :
    (acceptRequest r s).inputs = s.inputs := rfl
@[simp] theorem acceptRequest_taken (r : Request) (s : State) :
    (acceptRequest r s).taken = s.taken := rfl
@[simp] theorem acceptRequest_draws (r : Request) (s : State) :
    (acceptRequest r s).draws = s.draws := rfl

/-! ### takeResponse -/

@[simp] theorem takeResponse_fr (s : State) :
    (takeResponse s).fr = s.fr := rfl
@[simp] theorem takeResponse_engine (s : State) :
    (takeResponse s).engine = s.engine := rfl
@[simp] theorem takeResponse_busy (s : State) :
    (takeResponse s).busy = false := rfl
@[simp] theorem takeResponse_req (s : State) :
    (takeResponse s).req = s.req := rfl
@[simp] theorem takeResponse_rspValid (s : State) :
    (takeResponse s).rspValid = false := rfl
@[simp] theorem takeResponse_rsp (s : State) :
    (takeResponse s).rsp = Config.staleResponse s.draws := rfl
@[simp] theorem takeResponse_inputs (s : State) :
    (takeResponse s).inputs = s.inputs := rfl
@[simp] theorem takeResponse_taken (s : State) :
    (takeResponse s).taken = s.taken ++ [s.rsp] := rfl
@[simp] theorem takeResponse_draws (s : State) :
    (takeResponse s).draws = s.draws + 1 := rfl

/-! ### resetCore -/

@[simp] theorem resetCore_fr (s : State) :
    (resetCore s).fr = 0 := rfl
@[simp] theorem resetCore_engine (s : State) :
    (resetCore s).engine = { crcReg := 0, src := 0, idx := 0 } := rfl
@[simp] theorem resetCore_busy (s : State) :
    (resetCore s).busy = false := rfl
@[simp] theorem resetCore_req (s : State) :
    (resetCore s).req = { op := 0, a := 0, b := 0, c := 0 } := rfl
@[simp] theorem resetCore_rspValid (s : State) :
    (resetCore s).rspValid = false := rfl
@[simp] theorem resetCore_rsp (s : State) :
    (resetCore s).rsp = { status := 0, tag := 0, d0 := 0, d1 := 0 } := rfl
@[simp] theorem resetCore_inputs (s : State) :
    (resetCore s).inputs = s.inputs := rfl
@[simp] theorem resetCore_taken (s : State) :
    (resetCore s).taken = s.taken := rfl
@[simp] theorem resetCore_draws (s : State) :
    (resetCore s).draws = s.draws := rfl

/-! ### withAccepted -/

@[simp] theorem withAccepted_fr (r : Request) (s : State) :
    (withAccepted r s).fr = s.fr := rfl
@[simp] theorem withAccepted_engine (r : Request) (s : State) :
    (withAccepted r s).engine = s.engine := rfl
@[simp] theorem withAccepted_busy (r : Request) (s : State) :
    (withAccepted r s).busy = true := rfl
@[simp] theorem withAccepted_req (r : Request) (s : State) :
    (withAccepted r s).req = r := rfl
@[simp] theorem withAccepted_rspValid (r : Request) (s : State) :
    (withAccepted r s).rspValid = false := rfl
@[simp] theorem withAccepted_rsp (r : Request) (s : State) :
    (withAccepted r s).rsp = s.rsp := rfl
@[simp] theorem withAccepted_inputs (r : Request) (s : State) :
    (withAccepted r s).inputs = PortCycle.quiet :: s.inputs := rfl
@[simp] theorem withAccepted_taken (r : Request) (s : State) :
    (withAccepted r s).taken = s.taken := rfl
@[simp] theorem withAccepted_draws (r : Request) (s : State) :
    (withAccepted r s).draws = s.draws := rfl

/-! ### answered -/

@[simp] theorem answered_fr (s : State) (fr : Frame) (e : Engine) (rsp : Response) :
    (answered s fr e rsp).fr = fr := rfl
@[simp] theorem answered_engine (s : State) (fr : Frame) (e : Engine) (rsp : Response) :
    (answered s fr e rsp).engine = e := rfl
@[simp] theorem answered_busy (s : State) (fr : Frame) (e : Engine) (rsp : Response) :
    (answered s fr e rsp).busy = s.busy := rfl
@[simp] theorem answered_req (s : State) (fr : Frame) (e : Engine) (rsp : Response) :
    (answered s fr e rsp).req = s.req := rfl
@[simp] theorem answered_rspValid (s : State) (fr : Frame) (e : Engine) (rsp : Response) :
    (answered s fr e rsp).rspValid = true := rfl
@[simp] theorem answered_rsp (s : State) (fr : Frame) (e : Engine) (rsp : Response) :
    (answered s fr e rsp).rsp = rsp := rfl
@[simp] theorem answered_inputs (s : State) (fr : Frame) (e : Engine) (rsp : Response) :
    (answered s fr e rsp).inputs = s.inputs := rfl
@[simp] theorem answered_taken (s : State) (fr : Frame) (e : Engine) (rsp : Response) :
    (answered s fr e rsp).taken = s.taken := rfl
@[simp] theorem answered_draws (s : State) (fr : Frame) (e : Engine) (rsp : Response) :
    (answered s fr e rsp).draws = s.draws := rfl

end Sys2Proof.Machine
end

