-- ==== Sys2Proof/Laws/Ops.lean ====
section
/-! SUPPORT. What each shared operation answers, once, in the terms of Safety.lean, what an assembler's operand
becomes, and the bits of FR a setter writes. Later proofs cite these and unfold no operation. -/

namespace Sys2Proof.Machine

/-! ### Answers -/

theorem respondData_eq (d0 : BitVec 64) (s : State) :
    respondData d0 s = .next (answeredOnly s (dataResponse d0)) := rfl

theorem writeFrame_eq (f : Frame) (s : State) :
    writeFrame f s = .next (answered s f s.engine (dataResponse f)) := rfl

theorem raiseError_eq (st : Status) (s : State) :
    raiseError st s = .next (answeredOnly s (errorResponse st)) := rfl

theorem respondVariant_eq (v : Variant) (s : State) :
    respondVariant v s =
      .next (answeredOnly s { status := 0, tag := variantCode v, d0 := variantD0 v, d1 := variantD1 v }) := rfl

theorem writeChecked_lt {bound a : Nat} (h : a < bound) (f : Frame) (s : State) :
    writeChecked bound a f s = .next (answered s f s.engine (dataResponse f)) := by
  rw [writeChecked, if_neg (Nat.not_le.2 h), writeFrame_eq]

theorem writeChecked_ge {bound a : Nat} (h : bound ≤ a) (f : Frame) (s : State) :
    writeChecked bound a f s = .next (answeredOnly s (errorResponse .rangeError)) := by
  rw [writeChecked, if_pos h, raiseError_eq]

theorem encodeFrame_ge {addr : Nat} (h : 4 ≤ addr) (k : Cmd) (v : Variant) (s : State) :
    encodeFrame k addr v s = .next (answeredOnly s (errorResponse .rangeError)) := by
  rw [encodeFrame, if_pos h, raiseError_eq]

theorem encodeFrame_lt {addr : Nat} (h : addr < 4) (k : Cmd) (v : Variant) (s : State) :
    encodeFrame k addr v s =
      let pl := mkPayload (pack v) k (BitVec.ofNat 2 addr)
      let f := stamped (computeChecksum pl).crcReg pl
      .next (answered s f (computeChecksum pl) (dataResponse f)) := by
  rw [encodeFrame, if_neg (Nat.not_le.2 h)]
  rfl

theorem crc8_eq (v : Nat) (w : BitVec 16) (s : State) :
    execCrc8 v w s =
      .next (answered s s.fr (compute (BitVec.ofNat 64 v) w)
        (dataResponse ((compute (BitVec.ofNat 64 v) w).crcReg.setWidth 64))) := rfl

theorem decVerify_eq (s : State) :
    execDecVerify s =
      let e := computeChecksum (framePayload s.fr)
      .next (answered s s.fr e (dataResponse (boolData (e.crcReg == frameChecksum s.fr)))) := rfl

/-! ### What each answer is, under R85 -/

theorem responseLegal_error (st : Status) : responseLegal (errorResponse st) := by
  constructor <;> simp [errorResponse]

theorem responseLegal_data (d0 : BitVec 64) : responseLegal (dataResponse d0) := by
  constructor <;> simp [dataResponse]

theorem responseLegal_variant (v : Variant) :
    responseLegal { status := 0, tag := variantCode v, d0 := variantD0 v, d1 := variantD1 v } := by
  cases v <;> constructor <;> simp [variantCode, variantD0, variantD1] <;> omega

/-! ### Operands of an assembler line that fit their field (R11, R84) -/

theorem assembleA_fits {n : Int} (h0 : 0 ≤ n) (h : n < 2 ^ 64) :
    ∃ x, assembleA n = some x ∧ (x.toNat : Int) = n := by
  refine ⟨_, if_pos ⟨h0, h⟩, ?_⟩
  rw [BitVec.toNat_ofInt]
  omega

theorem assembleU16_fits {n : Int} (h0 : 0 ≤ n) (h : n < 65536) :
    ∃ x, assembleU16 n = some x ∧ (x.toNat : Int) = n := by
  refine ⟨_, if_pos ⟨h0, h⟩, ?_⟩
  rw [BitVec.toNat_ofInt]
  omega

theorem assembleS16_fits {n : Int} (h0 : -32768 ≤ n) (h : n < 65536) :
    ∃ x, assembleS16 n = some x ∧ (x.toNat : Int) = n % 65536 := by
  refine ⟨_, if_pos ⟨h0, h⟩, ?_⟩
  rw [BitVec.toNat_ofInt]
  omega

/-! ### Bits a setter writes (R10) -/

theorem setAddress_bit (f : Frame) (a i : Nat) :
    (setAddress f a).getLsbD i = if i < 2 then a.testBit i else f.getLsbD i := by
  rw [setAddress, mkFrame_bit]
  by_cases h2 : i < 2
  · rw [if_pos h2, if_pos h2, BitVec.getLsbD_ofNat]
    simp [h2]
  · conv_rhs => rw [if_neg h2, ← mkFrame_fields f, mkFrame_bit, if_neg h2]
    rw [if_neg h2]

theorem setCommand_bit (f : Frame) (a i : Nat) (hi : i < 64) :
    (setCommand f a).getLsbD i = if 2 ≤ i ∧ i < 6 then a.testBit (i - 2) else f.getLsbD i := by
  rw [setCommand, mkFrame_bit]
  by_cases h : 2 ≤ i ∧ i < 6
  · have h2 : ¬ i < 2 := by omega
    have h4 : i - 2 < 4 := by omega
    rw [if_neg h2, if_pos h.2, if_pos h, BitVec.getLsbD_ofNat]
    simp [h4]
  · rw [if_neg h]
    conv_rhs => rw [← mkFrame_fields f, mkFrame_bit]
    by_cases h2 : i < 2
    · simp [h2]
    · have h6 : ¬ i < 6 := by omega
      simp [h2, h6]

theorem setParameter_bit (f : Frame) (a i : Nat) (hi : i < 64) :
    (setParameter f a).getLsbD i = if 6 ≤ i ∧ i < 56 then a.testBit (i - 6) else f.getLsbD i := by
  rw [setParameter, mkFrame_bit]
  by_cases h : 6 ≤ i ∧ i < 56
  · have h2 : ¬ i < 2 := by omega
    have h6 : ¬ i < 6 := by omega
    have h50 : i - 6 < 50 := by omega
    rw [if_neg h2, if_neg h6, if_pos h.2, if_pos h, BitVec.getLsbD_ofNat]
    simp [h50]
  · rw [if_neg h]
    conv_rhs => rw [← mkFrame_fields f, mkFrame_bit]
    by_cases h6 : i < 6
    · simp [h6]
    · have h2 : ¬ i < 2 := by omega
      have h56 : ¬ i < 56 := by omega
      simp [h2, h6, h56]

theorem setChecksum_bit (f : Frame) (a i : Nat) (hi : i < 64) :
    (setChecksum f a).getLsbD i = if 56 ≤ i then a.testBit (i - 56) else f.getLsbD i := by
  rw [setChecksum, mkFrame_bit]
  by_cases h : 56 ≤ i
  · have h2 : ¬ i < 2 := by omega
    have h6 : ¬ i < 6 := by omega
    have h56 : ¬ i < 56 := by omega
    have h8 : i - 56 < 8 := by omega
    rw [if_neg h2, if_neg h6, if_neg h56, if_pos h, BitVec.getLsbD_ofNat]
    simp [h8]
  · rw [if_neg h]
    conv_rhs => rw [← mkFrame_fields f, mkFrame_bit]
    have h56 : i < 56 := by omega
    simp [h56]

/-! ### Taking a cycle's inputs -/

theorem currentCycle_cons {s : State} {c : PortCycle} {cs : List PortCycle} (h : s.inputs = c :: cs) :
    currentCycle s = c := by
  rw [currentCycle, h, List.headD_cons]

end Sys2Proof.Machine
end

