-- ==== Sys2Proof/Laws/PerInstr.lean ====
section
/-! SUPPORT. The instruction as syntax, constructor by constructor: the word the encoder gives it carries its
own row's bits of spec/opcode_table.json (30_encoding.md R81, R66). -/

namespace Sys2Proof.Laws.RowMatch

/-- The encoded word fits the instruction's own row of the opcode table. -/
def Statement (i : Instr) : Prop := rowMatches (instrRow i) (encode i) = true

/-- The low five bits of a packed request are OP (R80). -/
theorem packed_low (r : Request) : (packRequest r).toNat &&& 0x1F = r.op.toNat := by
  rw [show (0x1F : Nat) = 2 ^ 5 - 1 from rfl, Nat.and_two_pow_sub_one_eq_mod]
  have h := congrArg (fun u : Request => u.op.toNat) (unpackRequest_packRequest r)
  simpa [unpackRequest] using h

/-- The masked bits of a frame are its command code, four times (R60). -/
theorem frame_masked (x : Csum) (p : Param) (k : Cmd) (a : Addr) :
    (mkFrame x p k a).toNat &&& 0x3C = 4 * k.toNat := by
  rw [show (0x3C : Nat) = 2 ^ 2 * (2 ^ 4 - 1) from rfl, show 4 * k.toNat = 2 ^ 2 * k.toNat from rfl]
  apply Nat.eq_of_testBit_eq
  intro i
  rw [Nat.testBit_and, Nat.testBit_two_pow_mul, Nat.testBit_two_pow_mul, Nat.testBit_two_pow_sub_one,
    BitVec.testBit_toNat, BitVec.testBit_toNat, mkFrame_bit]
  by_cases h2 : i < 2
  · have : ¬ 2 ≤ i := by omega
    simp [this]
  · have h2' : 2 ≤ i := by omega
    by_cases h6 : i < 6
    · have : i - 2 < 4 := by omega
      simp [h2, h2', h6, this]
    · have h4 : ¬ i - 2 < 4 := by omega
      have hk : k.getLsbD (i - 2) = false := BitVec.getLsbD_of_ge k _ (by omega)
      simp [h4, hk]

/-- A request word fits a row of its op code. -/
theorem request (m : String) (op : BitVec 5) (n : Nat) (h : op.toNat = n) (a : Nat) (b c : BitVec 16) :
    rowMatches (requestRow m n) (requestCode op a b c) = true := by
  simp [rowMatches, requestRow, requestCode, packed_low, h]

/-- A frame word fits a row of its command code. -/
theorem frame (m : String) (k : Cmd) (n : Nat) (h : k.toNat = n) (a : Addr) (p : Param) (x : Csum) :
    rowMatches (frameRow m n) (frameCode k a p x) = true := by
  simp [rowMatches, frameRow, frameCode, frame_masked, h]

theorem frClear : Statement .frClear :=
  request _ _ _ rfl _ _ _
theorem frLoad (a : Nat) : Statement (.frLoad a) :=
  request _ _ _ rfl _ _ _
theorem frSetAddr (a : Nat) : Statement (.frSetAddr a) :=
  request _ _ _ rfl _ _ _
theorem frSetCmd (a : Nat) : Statement (.frSetCmd a) :=
  request _ _ _ rfl _ _ _
theorem frSetParam (a : Nat) : Statement (.frSetParam a) :=
  request _ _ _ rfl _ _ _
theorem frSetCsum (a : Nat) : Statement (.frSetCsum a) :=
  request _ _ _ rfl _ _ _
theorem frGetAddr : Statement .frGetAddr :=
  request _ _ _ rfl _ _ _
theorem frGetCmd : Statement .frGetCmd :=
  request _ _ _ rfl _ _ _
theorem frGetParam : Statement .frGetParam :=
  request _ _ _ rfl _ _ _
theorem frGetCsum : Statement .frGetCsum :=
  request _ _ _ rfl _ _ _
theorem frGetPayload : Statement .frGetPayload :=
  request _ _ _ rfl _ _ _
theorem frGetRaw : Statement .frGetRaw :=
  request _ _ _ rfl _ _ _
theorem crc8 (v : Nat) (w : BitVec 16) : Statement (.crc8 v w) :=
  request _ _ _ rfl _ _ _
theorem decVerify : Statement .decVerify :=
  request _ _ _ rfl _ _ _
theorem decParams : Statement .decParams :=
  request _ _ _ rfl _ _ _
theorem reserved0F : Statement .reserved0F :=
  request _ _ _ rfl _ _ _
theorem encMove (a : Nat) (distance : BitVec 16) : Statement (.encMove a distance) :=
  request _ _ _ rfl _ _ _
theorem encReverse (a : Nat) (distance : BitVec 16) : Statement (.encReverse a distance) :=
  request _ _ _ rfl _ _ _
theorem encTurn (a : Nat) (angle : Int) : Statement (.encTurn a angle) :=
  request _ _ _ rfl _ _ _
theorem encStop (a : Nat) : Statement (.encStop a) :=
  request _ _ _ rfl _ _ _
theorem encInfo (a : Nat) (flag : BitVec 8) : Statement (.encInfo a flag) :=
  request _ _ _ rfl _ _ _
theorem encPing (a : Nat) (id : BitVec 8) : Statement (.encPing a id) :=
  request _ _ _ rfl _ _ _
theorem encPong (a : Nat) (id : BitVec 8) : Statement (.encPong a id) :=
  request _ _ _ rfl _ _ _
theorem encError (a : Nat) (errorCode : BitVec 16) : Statement (.encError a errorCode) :=
  request _ _ _ rfl _ _ _
theorem encPoll (a : Nat) (pollId : BitVec 8) : Statement (.encPoll a pollId) :=
  request _ _ _ rfl _ _ _
theorem encResponse (a : Nat) (pollId : BitVec 8) (data : BitVec 16) : Statement (.encResponse a pollId data) :=
  request _ _ _ rfl _ _ _
theorem encCrane (a : Nat) (flag : BitVec 8) : Statement (.encCrane a flag) :=
  request _ _ _ rfl _ _ _
theorem reserved1B : Statement .reserved1B :=
  request _ _ _ rfl _ _ _
theorem reserved1C : Statement .reserved1C :=
  request _ _ _ rfl _ _ _
theorem reserved1D : Statement .reserved1D :=
  request _ _ _ rfl _ _ _
theorem reserved1E : Statement .reserved1E :=
  request _ _ _ rfl _ _ _
theorem reserved1F : Statement .reserved1F :=
  request _ _ _ rfl _ _ _
theorem frameMove (address : Addr) (parameter : Param) (checksum : Csum) : Statement (.frameMove address parameter checksum) :=
  frame _ _ _ rfl _ _ _
theorem frameReverse (address : Addr) (parameter : Param) (checksum : Csum) : Statement (.frameReverse address parameter checksum) :=
  frame _ _ _ rfl _ _ _
theorem frameTurn (address : Addr) (parameter : Param) (checksum : Csum) : Statement (.frameTurn address parameter checksum) :=
  frame _ _ _ rfl _ _ _
theorem frameStop (address : Addr) (parameter : Param) (checksum : Csum) : Statement (.frameStop address parameter checksum) :=
  frame _ _ _ rfl _ _ _
theorem frameInfo (address : Addr) (parameter : Param) (checksum : Csum) : Statement (.frameInfo address parameter checksum) :=
  frame _ _ _ rfl _ _ _
theorem framePing (address : Addr) (parameter : Param) (checksum : Csum) : Statement (.framePing address parameter checksum) :=
  frame _ _ _ rfl _ _ _
theorem framePong (address : Addr) (parameter : Param) (checksum : Csum) : Statement (.framePong address parameter checksum) :=
  frame _ _ _ rfl _ _ _
theorem frameError (address : Addr) (parameter : Param) (checksum : Csum) : Statement (.frameError address parameter checksum) :=
  frame _ _ _ rfl _ _ _
theorem framePoll (address : Addr) (parameter : Param) (checksum : Csum) : Statement (.framePoll address parameter checksum) :=
  frame _ _ _ rfl _ _ _
theorem frameResponse (address : Addr) (parameter : Param) (checksum : Csum) : Statement (.frameResponse address parameter checksum) :=
  frame _ _ _ rfl _ _ _
theorem frameCrane (address : Addr) (parameter : Param) (checksum : Csum) : Statement (.frameCrane address parameter checksum) :=
  frame _ _ _ rfl _ _ _
theorem frameUnassignedB (address : Addr) (parameter : Param) (checksum : Csum) : Statement (.frameUnassignedB address parameter checksum) :=
  frame _ _ _ rfl _ _ _
theorem frameUnassignedC (address : Addr) (parameter : Param) (checksum : Csum) : Statement (.frameUnassignedC address parameter checksum) :=
  frame _ _ _ rfl _ _ _
theorem frameUnassignedD (address : Addr) (parameter : Param) (checksum : Csum) : Statement (.frameUnassignedD address parameter checksum) :=
  frame _ _ _ rfl _ _ _
theorem frameUnassignedE (address : Addr) (parameter : Param) (checksum : Csum) : Statement (.frameUnassignedE address parameter checksum) :=
  frame _ _ _ rfl _ _ _
theorem frameUnassignedF (address : Addr) (parameter : Param) (checksum : Csum) : Statement (.frameUnassignedF address parameter checksum) :=
  frame _ _ _ rfl _ _ _

end Sys2Proof.Laws.RowMatch
end

