-- ==== Sys2Proof/Laws/WellFormed.lean ====
section
/-! SUPPORT. What the well-formedness checks say, and that the decoder's operands meet them. -/

namespace Sys2Proof

theorem fitsA_iff (a : Nat) : fitsA a = true ↔ a < 2 ^ 64 := by
  simp [fitsA]

theorem fitsS16_iff (n : Int) : fitsS16 n = true ↔ -32768 ≤ n ∧ n ≤ 32767 := by
  simp [fitsS16]

/-- Operand A as latched fits (R80, R84). -/
theorem operandA_fits (r : Request) : fitsA (operandA r) = true :=
  (fitsA_iff _).2 r.a.isLt

/-- TURN's operand is an s16 (R84). -/
theorem operandBSigned_fits (r : Request) : fitsS16 (operandBSigned r) = true := by
  have h1 := BitVec.toInt_lt (x := r.b)
  have h2 := BitVec.le_toInt (x := r.b)
  rw [fitsS16_iff, operandBSigned]
  omega

end Sys2Proof
end

