-- ==== Sys2Proof/Tests/Slice0.lean ====
section
/-! SUPPORT. Tests. Every expected value is from 95_test_vectors.md (the vector is named) or packed by hand
from 30_encoding.md R80 and R60, never from the model. The last part gives, for each obligation with
hypotheses, values that meet them. -/

namespace Sys2Proof.Tests

-- Kernel evaluations one after another: in parallel each would take a thread with a stack of its own.
set_option Elab.async false

open Sys2Proof.Machine

/-- A state with FR given and a request accepted. -/
def holding (f : Frame) : State := { State.reset with fr := f, busy := true }

/-- Response and FR after an outcome. -/
def shown : Host.Outcome State Fault Refusal → Option (Response × Frame)
  | .next t => some (t.rsp, t.fr)
  | .fault _ => none
  | .refused _ => none

/-- Response and FR after one request, from a given FR. -/
def ask (f : Frame) (op : BitVec 5) (a : BitVec 64) (b c : BitVec 16) : Option (Response × Frame) :=
  shown (exec (decodeRequest { op := op, a := a, b := b, c := c }) (holding f))

/-- Response and FR after one step that runs a table word, from a given FR. -/
def stepWord (f : Frame) (nbits word : Nat) : Option (Response × Frame) :=
  shown (step ((holding f).withFetchWord nbits word))

/-! ### WellFormed refuses what the port cannot present -/

/-- Operand A has 64 bits (R80). -/
theorem test_wf_operand_a_fits :
    [Instr.frLoad (2 ^ 64),
      .frSetAddr (2 ^ 64),
      .frSetCmd (2 ^ 64),
      .frSetParam (2 ^ 64),
      .frSetCsum (2 ^ 64),
      .crc8 (2 ^ 64) 8,
      .encMove (2 ^ 64) 0,
      .encReverse (2 ^ 64) 0,
      .encTurn (2 ^ 64) 0,
      .encStop (2 ^ 64),
      .encInfo (2 ^ 64) 0,
      .encPing (2 ^ 64) 0,
      .encPong (2 ^ 64) 0,
      .encError (2 ^ 64) 0,
      .encPoll (2 ^ 64) 0,
      .encResponse (2 ^ 64) 0 0,
      .encCrane (2 ^ 64) 0].all (fun i => i.wf == false) = true := by
  decide

/-- TURN's angle is an s16 (R153). -/
theorem test_wf_angle_fits :
    (Instr.encTurn 0 32768).wf = false ∧ (Instr.encTurn 0 (-32769)).wf = false ∧
      (Variant.turn 32768).wf = false ∧ (Variant.turn (-32769)).wf = false := by
  decide

/-- The extremes pass. -/
theorem test_wf_extremes_pass :
    (Instr.encTurn (2 ^ 64 - 1) (-32768)).wf = true ∧ (Instr.encTurn 0 32767).wf = true ∧
      (Instr.frLoad (2 ^ 64 - 1)).wf = true := by
  decide

/-! ### Decoding words written out from the spec -/

/-- FR_* (P2 steps 1 to 4, 6 and 8; P3 steps 1 and 10; P1 steps 5 and 6; P4 step 6). -/
theorem test_decode_frame_operations :
    decodeTableWord 104 0x00000000000000000000000000 = some .frClear ∧
    decodeTableWord 104 0x00000000160000000000269001 = some (.frLoad 0xB000000000013480) ∧
    decodeTableWord 104 0x00000000000000000000000062 = some (.frSetAddr 3) ∧
    decodeTableWord 104 0x00000000000000000000000043 = some (.frSetCmd 2) ∧
    decodeTableWord 104 0x000000000000000000001FCB84 = some (.frSetParam 0xFE5C) ∧
    decodeTableWord 104 0x000000000000000000000003A5 = some (.frSetCsum 0x1D) ∧
    decodeTableWord 104 0x00000000000000000000000006 = some .frGetAddr ∧
    decodeTableWord 104 0x00000000000000000000000007 = some .frGetCmd ∧
    decodeTableWord 104 0x00000000000000000000000008 = some .frGetParam ∧
    decodeTableWord 104 0x00000000000000000000000009 = some .frGetCsum ∧
    decodeTableWord 104 0x0000000000000000000000000A = some .frGetPayload ∧
    decodeTableWord 104 0x0000000000000000000000000B = some .frGetRaw := by
  decide

/-- CRC8, DEC_VERIFY, DEC_PARAMS (P5 steps 1 to 3; P2 step 7). -/
theorem test_decode_crc_and_decoder :
    decodeTableWord 104 0x0000000100000000000000100C = some (.crc8 0x80 8) ∧
    decodeTableWord 104 0x00000007000000000007F2E16C = some (.crc8 0x3F970B 56) ∧
    decodeTableWord 104 0x0000000000000000000000000D = some .decVerify ∧
    decodeTableWord 104 0x0000000000000000000000000E = some .decParams := by
  decide

/-- ENC_* (P1 step 1; P5 steps 4 and 6; P4 step 1; P3 step 9; the others packed from R80). -/
theorem test_decode_encoder :
    decodeTableWord 104 0x0000009A400000000000000010 = some (.encMove 0 1234) ∧
    decodeTableWord 104 0x0000003E800000000000000031 = some (.encReverse 1 500) ∧
    decodeTableWord 104 0x00001000000000000000000072 = some (.encTurn 3 (-32768)) ∧
    decodeTableWord 104 0x00000FFFE00000000000000072 = some (.encTurn 3 32767) ∧
    decodeTableWord 104 0x00001FFFE00000000000000033 = some (.encStop 1) ∧
    decodeTableWord 104 0x0000003FE00000000000000034 = some (.encInfo 1 0xFF) ∧
    decodeTableWord 104 0x00000000200000000000000095 = some (.encPing 4 1) ∧
    decodeTableWord 104 0x00000005400000000000000016 = some (.encPong 0 0x2A) ∧
    decodeTableWord 104 0x00001FFFE00000000000000077 = some (.encError 3 0xFFFF) ∧
    decodeTableWord 104 0x00000000400000000000000038 = some (.encPoll 1 2) ∧
    decodeTableWord 104 0x00348000200000000000000039 = some (.encResponse 1 1 420) ∧
    decodeTableWord 104 0x0000000020000000000000007A = some (.encCrane 3 1) := by
  decide

/-- The reserved op codes, whatever the operands (R82; P3 step 8). -/
theorem test_decode_reserved :
    decodeTableWord 104 0x0000E000C000000000000000AF = some .reserved0F ∧
    decodeTableWord 104 0x0000E000C000000000000000BB = some .reserved1B ∧
    decodeTableWord 104 0x0000E000C000000000000000BC = some .reserved1C ∧
    decodeTableWord 104 0x0000E000C000000000000000BD = some .reserved1D ∧
    decodeTableWord 104 0x0000E000C000000000000000BE = some .reserved1E ∧
    decodeTableWord 104 0x0000000000000000000000001F = some .reserved1F := by
  decide

/-- Frames with an assigned command code (V-ENC-1, 5, 6, 10, 13, 16, 17, 19, 20, 21, 23). -/
theorem test_decode_frames :
    decodeTableWord 64 0x4F00000000013480 = some (.frameMove 0 1234 0x4F) ∧
    decodeTableWord 64 0x5000000000007D05 = some (.frameReverse 1 500 0x50) ∧
    decodeTableWord 64 0x1D000000003F970B = some (.frameTurn 3 0xFE5C 0x1D) ∧
    decodeTableWord 64 0x230000000000000D = some (.frameStop 1 0 0x23) ∧
    decodeTableWord 64 0xB000000000000051 = some (.frameInfo 1 1 0xB0) ∧
    decodeTableWord 64 0x6000000000000A95 = some (.framePing 1 0x2A 0x60) ∧
    decodeTableWord 64 0x4300000000000A98 = some (.framePong 0 0x2A 0x43) ∧
    decodeTableWord 64 0x62000000003FFFDF = some (.frameError 3 0xFFFF 0x62) ∧
    decodeTableWord 64 0x6E000000000000A1 = some (.framePoll 1 2 0x6E) ∧
    decodeTableWord 64 0xC300000000690065 = some (.frameResponse 1 0x1A401 0xC3) ∧
    decodeTableWord 64 0x160000000000006B = some (.frameCrane 3 1 0x16) := by
  decide

/-- Frames with an unassigned command code (V-DEC-22 to V-DEC-26). -/
theorem test_decode_unassigned_frames :
    decodeTableWord 64 0xC40000000000002C = some (.frameUnassignedB 0 0 0xC4) ∧
    decodeTableWord 64 0x9000000000000030 = some (.frameUnassignedC 0 0 0x90) ∧
    decodeTableWord 64 0x8C00000000000034 = some (.frameUnassignedD 0 0 0x8C) ∧
    decodeTableWord 64 0xA800000000000038 = some (.frameUnassignedE 0 0 0xA8) ∧
    decodeTableWord 64 0xB40000000000003C = some (.frameUnassignedF 0 0 0xB4) := by
  decide

/-- Bits that are no code are refused by name. -/
theorem test_decode_rejects :
    readCode 0 0 = .error (.noSuchLength 0) ∧ readCode 112 0 = .error (.noSuchLength 112) ∧
      readCode 8 0x100 = .error (.bitAboveLength 8 0x100) ∧
      readCode 104 (2 ^ 101) = .error (.bitAboveRequest (2 ^ 101)) := by
  refine ⟨?_, ?_, ?_, ?_⟩ <;> rfl

/-- The encoder writes the words of P1, P2 and P5. -/
theorem test_encode_words :
    encode (.encMove 0 1234) = .req 0x0000009A400000000000000010 ∧
      encode (.encTurn 3 (-32768)) = .req 0x00001000000000000000000072 ∧
      encode (.crc8 0x3F970B 56) = .req 0x00000007000000000007F2E16C ∧
      encode (.frameTurn 3 0xFE5C 0x1D) = .frame 0x1D000000003F970B := by
  decide

/-! ### One request: response and FR after -/

/-- R120, from every bit set. -/
theorem test_fr_clear :
    ask 0xFFFFFFFFFFFFFFFF 0x00 0 0 0 = some (⟨0, 0, 0, 0⟩, 0) := by
  decide +kernel

/-- P3 step 1; and R121 at the largest value. -/
theorem test_fr_load :
    ask 0 0x01 0xB000000000013480 0 0 = some (⟨0, 0, 0xB000000000013480, 0⟩, 0xB000000000013480) ∧
    ask 0 0x01 0xFFFFFFFFFFFFFFFF 0 0 = some (⟨0, 0, 0xFFFFFFFFFFFFFFFF, 0⟩, 0xFFFFFFFFFFFFFFFF) := by
  decide +kernel

/-- V-EX-6 and V-FR-13; and R122 over an all-ones frame. -/
theorem test_fr_set_addr :
    ask 0x4F00000000013480 0x02 4 0 0 = some (⟨1, 0, 0, 0⟩, 0x4F00000000013480) ∧
    ask 0 0x02 0xFFFFFFFFFFFFFFFF 0 0 = some (⟨1, 0, 0, 0⟩, 0) ∧
    ask 0xFFFFFFFFFFFFFFFF 0x02 0 0 0 = some (⟨0, 0, 0xFFFFFFFFFFFFFFFC, 0⟩, 0xFFFFFFFFFFFFFFFC) := by
  decide +kernel

/-- V-EX-6, V-FR-14; P3 step 6. -/
theorem test_fr_set_cmd :
    ask 0x4F00000000013480 0x03 16 0 0 = some (⟨1, 0, 0, 0⟩, 0x4F00000000013480) ∧
    ask 0xB000000000013480 0x03 0xF 0 0 = some (⟨0, 0, 0xB0000000000134BC, 0⟩, 0xB0000000000134BC) := by
  decide +kernel

/-- V-EX-6, V-FR-11, V-FR-12. -/
theorem test_fr_set_param :
    ask 0x4F00000000013480 0x04 0x4000000000000 0 0 = some (⟨0, 0, 0x4F00000000000000, 0⟩, 0x4F00000000000000) ∧
    ask 0 0x04 0xFFFFFFFFFFFFFFFF 0 0 = some (⟨0, 0, 0x00FFFFFFFFFFFFC0, 0⟩, 0x00FFFFFFFFFFFFC0) ∧
    ask 0 0x04 0x4000000000005 0 0 = some (⟨0, 0, 0x140, 0⟩, 0x140) := by
  decide +kernel

/-- V-EX-6, V-FR-10, V-FR-15. -/
theorem test_fr_set_csum :
    ask 0x4F00000000013480 0x05 256 0 0 = some (⟨1, 0, 0, 0⟩, 0x4F00000000013480) ∧
    ask 0 0x05 0xFF 0 0 = some (⟨0, 0, 0xFF00000000000000, 0⟩, 0xFF00000000000000) := by
  decide +kernel

/-- V-FR-16 to V-FR-21. -/
theorem test_fr_getters_all_ones :
    ask 0xFFFFFFFFFFFFFFFF 0x06 0 0 0 = some (⟨0, 0, 0x3, 0⟩, 0xFFFFFFFFFFFFFFFF) ∧
    ask 0xFFFFFFFFFFFFFFFF 0x07 0 0 0 = some (⟨0, 0, 0xF, 0⟩, 0xFFFFFFFFFFFFFFFF) ∧
    ask 0xFFFFFFFFFFFFFFFF 0x08 0 0 0 = some (⟨0, 0, 0x3FFFFFFFFFFFF, 0⟩, 0xFFFFFFFFFFFFFFFF) ∧
    ask 0xFFFFFFFFFFFFFFFF 0x09 0 0 0 = some (⟨0, 0, 0xFF, 0⟩, 0xFFFFFFFFFFFFFFFF) ∧
    ask 0xFFFFFFFFFFFFFFFF 0x0A 0 0 0 = some (⟨0, 0, 0x00FFFFFFFFFFFFFF, 0⟩, 0xFFFFFFFFFFFFFFFF) ∧
    ask 0xFFFFFFFFFFFFFFFF 0x0B 0 0 0 = some (⟨0, 0, 0xFFFFFFFFFFFFFFFF, 0⟩, 0xFFFFFFFFFFFFFFFF) := by
  decide +kernel

/-- V-FR-22 to V-FR-24; P2 step 6. -/
theorem test_fr_getters :
    ask 0x4F00000000013480 0x08 0 0 0 = some (⟨0, 0, 0x4D2, 0⟩, 0x4F00000000013480) ∧
    ask 0x4F00000000013480 0x09 0 0 0 = some (⟨0, 0, 0x4F, 0⟩, 0x4F00000000013480) ∧
    ask 0x4F00000000013480 0x0A 0 0 0 = some (⟨0, 0, 0x13480, 0⟩, 0x4F00000000013480) ∧
    ask 0x000000000000000B 0x06 0 0 0 = some (⟨0, 0, 3, 0⟩, 0x000000000000000B) ∧
    ask 0x000000000000000B 0x07 0 0 0 = some (⟨0, 0, 2, 0⟩, 0x000000000000000B) := by
  decide +kernel

/-- V-CRC-2, 3, 5, 6, 8, 12 and 13. -/
theorem test_crc8_small :
    ask 0x4F00000000013480 0x0C 1 1 0 = some (⟨0, 0, 0x07, 0⟩, 0x4F00000000013480) ∧
    ask 0x4F00000000013480 0x0C 0x80 8 0 = some (⟨0, 0, 0x89, 0⟩, 0x4F00000000013480) ∧
    ask 0x4F00000000013480 0x0C 0xFF 8 0 = some (⟨0, 0, 0xF3, 0⟩, 0x4F00000000013480) ∧
    ask 0x4F00000000013480 0x0C 0x1FF 8 0 = some (⟨0, 0, 0xF3, 0⟩, 0x4F00000000013480) ∧
    ask 0x4F00000000013480 0x0C 0b10110 5 0 = some (⟨0, 0, 0x62, 0⟩, 0x4F00000000013480) ∧
    ask 0x4F00000000013480 0x0C 0x07 3 0 = some (⟨0, 0, 0x15, 0⟩, 0x4F00000000013480) ∧
    ask 0x4F00000000013480 0x0C 0x107 9 0 = some (⟨0, 0, 0, 0⟩, 0x4F00000000013480) := by
  decide +kernel

/-- V-CRC-1, 10, 14, 15, 16 and 20: widths 0, 56, 64 and 72. -/
theorem test_crc8_wide :
    ask 0x4F00000000013480 0x0C 0 0 0 = some (⟨0, 0, 0, 0⟩, 0x4F00000000013480) ∧
    ask 0x4F00000000013480 0x0C 0x3233343536373839 72 0 = some (⟨0, 0, 0x05, 0⟩, 0x4F00000000013480) ∧
    ask 0x4F00000000013480 0x0C 0x13480 56 0 = some (⟨0, 0, 0x4F, 0⟩, 0x4F00000000013480) ∧
    ask 0x4F00000000013480 0x0C 0x00FFFFFFFFFFFFFF 56 0 = some (⟨0, 0, 0x0C, 0⟩, 0x4F00000000013480) ∧
    ask 0x4F00000000013480 0x0C 0xFFFFFFFFFFFFFFFF 64 0 = some (⟨0, 0, 0xD7, 0⟩, 0x4F00000000013480) ∧
    ask 0x4F00000000013480 0x0C 0xFFFFFFFFFFFFFFFF 0 0 = some (⟨0, 0, 0, 0⟩, 0x4F00000000013480) := by
  decide +kernel

/-- V-CRC-9: the function's check value, on a value no request can present. -/
theorem test_crc_check_value : crc8 0x313233343536373839 72 = 0xF4 := by
  decide +kernel

/-- V-CRC-3 and V-CRC-8: the register after each engine step (R102, R103). -/
theorem test_engine_traces :
    (List.range 9).map (fun n => (engineSteps n (engineStart 0x80 8)).crcReg) =
        [0x00, 0x07, 0x0E, 0x1C, 0x38, 0x70, 0xE0, 0xC7, 0x89] ∧
      (List.range 6).map (fun n => (engineSteps n (engineStart 0b10110 5)).crcReg) =
        [0x00, 0x07, 0x0E, 0x1B, 0x31, 0x62] := by
  decide +kernel

/-- V-ENC-1, V-ENC-3, V-ENC-4 and V-ENC-25. -/
theorem test_enc_move :
    ask 0xFFFFFFFFFFFFFFFF 0x10 0 1234 0 = some (⟨0, 0, 0x4F00000000013480, 0⟩, 0x4F00000000013480) ∧
    ask 0xFFFFFFFFFFFFFFFF 0x10 1 65535 0 = some (⟨0, 0, 0x38000000003FFFC1, 0⟩, 0x38000000003FFFC1) ∧
    ask 0xFFFFFFFFFFFFFFFF 0x10 2 7 0 = some (⟨0, 0, 0x55000000000001C2, 0⟩, 0x55000000000001C2) ∧
    ask 0x4F00000000013480 0x10 4 1 0 = some (⟨1, 0, 0, 0⟩, 0x4F00000000013480) := by
  decide +kernel

/-- V-ENC-5. -/
theorem test_enc_reverse :
    ask 0xFFFFFFFFFFFFFFFF 0x11 1 500 0 = some (⟨0, 0, 0x5000000000007D05, 0⟩, 0x5000000000007D05) := by
  decide +kernel

/-- V-ENC-6 to V-ENC-9. -/
theorem test_enc_turn :
    ask 0xFFFFFFFFFFFFFFFF 0x12 3 0xFE5C 0 = some (⟨0, 0, 0x1D000000003F970B, 0⟩, 0x1D000000003F970B) ∧
    ask 0xFFFFFFFFFFFFFFFF 0x12 3 0x8000 0 = some (⟨0, 0, 0x720000000020000B, 0⟩, 0x720000000020000B) ∧
    ask 0xFFFFFFFFFFFFFFFF 0x12 3 0x7FFF 0 = some (⟨0, 0, 0x4D000000001FFFCB, 0⟩, 0x4D000000001FFFCB) ∧
    ask 0xFFFFFFFFFFFFFFFF 0x12 0 0xFFFF 0 = some (⟨0, 0, 0x07000000003FFFC8, 0⟩, 0x07000000003FFFC8) := by
  decide +kernel

/-- V-ENC-11 and V-ENC-26. -/
theorem test_enc_stop :
    ask 0xFFFFFFFFFFFFFFFF 0x13 1 0xFFFF 0 = some (⟨0, 0, 0x230000000000000D, 0⟩, 0x230000000000000D) ∧
    ask 0x4F00000000013480 0x13 0xFFFFFFFFFFFFFFFF 0 0 = some (⟨1, 0, 0, 0⟩, 0x4F00000000013480) := by
  decide +kernel

/-- V-ENC-14, and R185: b=0x0101 packs flag 0x01 (V-ENC-13; V-ENC-15 is not followed, log 18). -/
theorem test_enc_info :
    ask 0xFFFFFFFFFFFFFFFF 0x14 0 0 0 = some (⟨0, 0, 0x7000000000000010, 0⟩, 0x7000000000000010) ∧
    ask 0xFFFFFFFFFFFFFFFF 0x14 1 0x0101 0 = some (⟨0, 0, 0xB000000000000051, 0⟩, 0xB000000000000051) := by
  decide +kernel

/-- V-ENC-16 and V-ENC-27. -/
theorem test_enc_ping :
    ask 0xFFFFFFFFFFFFFFFF 0x15 1 0x2A 0 = some (⟨0, 0, 0x6000000000000A95, 0⟩, 0x6000000000000A95) ∧
    ask 0x4F00000000013480 0x15 4 1 0 = some (⟨1, 0, 0, 0⟩, 0x4F00000000013480) := by
  decide +kernel

/-- V-ENC-17. -/
theorem test_enc_pong :
    ask 0xFFFFFFFFFFFFFFFF 0x16 0 0x2A 0 = some (⟨0, 0, 0x4300000000000A98, 0⟩, 0x4300000000000A98) := by
  decide +kernel

/-- V-ENC-18 and V-ENC-19. -/
theorem test_enc_error :
    ask 0xFFFFFFFFFFFFFFFF 0x17 0 0 0 = some (⟨0, 0, 0x540000000000001C, 0⟩, 0x540000000000001C) ∧
    ask 0xFFFFFFFFFFFFFFFF 0x17 3 0xFFFF 0 = some (⟨0, 0, 0x62000000003FFFDF, 0⟩, 0x62000000003FFFDF) := by
  decide +kernel

/-- V-ENC-20. -/
theorem test_enc_poll :
    ask 0xFFFFFFFFFFFFFFFF 0x18 1 2 0 = some (⟨0, 0, 0x6E000000000000A1, 0⟩, 0x6E000000000000A1) := by
  decide +kernel

/-- V-ENC-21 and V-ENC-22. -/
theorem test_enc_response :
    ask 0xFFFFFFFFFFFFFFFF 0x19 1 1 420 = some (⟨0, 0, 0xC300000000690065, 0⟩, 0xC300000000690065) ∧
    ask 0xFFFFFFFFFFFFFFFF 0x19 0 0xFF 0xFFFF = some (⟨0, 0, 0x350000003FFFFFE4, 0⟩, 0x350000003FFFFFE4) := by
  decide +kernel

/-- V-ENC-23 and V-ENC-24. -/
theorem test_enc_crane :
    ask 0xFFFFFFFFFFFFFFFF 0x1A 3 1 0 = some (⟨0, 0, 0x160000000000006B, 0⟩, 0x160000000000006B) ∧
    ask 0xFFFFFFFFFFFFFFFF 0x1A 3 0 0 = some (⟨0, 0, 0xD10000000000002B, 0⟩, 0xD10000000000002B) := by
  decide +kernel

/-- V-DEC-1 to V-DEC-5, and V-DEC-27 for command 0xF. -/
theorem test_dec_verify :
    ask 0x4F00000000013480 0x0D 0 0 0 = some (⟨0, 0, 1, 0⟩, 0x4F00000000013480) ∧
    ask 0xB000000000013480 0x0D 0 0 0 = some (⟨0, 0, 0, 0⟩, 0xB000000000013480) ∧
    ask 0 0x0D 0 0 0 = some (⟨0, 0, 1, 0⟩, 0) ∧
    ask 0xFFFFFFFFFFFFFFFF 0x0D 0 0 0 = some (⟨0, 0, 0, 0⟩, 0xFFFFFFFFFFFFFFFF) ∧
    ask 0x0CFFFFFFFFFFFFFF 0x0D 0 0 0 = some (⟨0, 0, 1, 0⟩, 0x0CFFFFFFFFFFFFFF) ∧
    ask 0xB40000000000003C 0x0D 0 0 0 = some (⟨0, 0, 1, 0⟩, 0xB40000000000003C) := by
  decide +kernel

/-- V-DEC-7 to V-DEC-21, one or two for each command code. -/
theorem test_dec_params :
    ask 0xB000000000013480 0x0E 0 0 0 = some (⟨0, 0, 0x4D2, 0⟩, 0xB000000000013480) ∧
    ask 0x5000000000007D05 0x0E 0 0 0 = some (⟨0, 1, 0x1F4, 0⟩, 0x5000000000007D05) ∧
    ask 0x1D000000003F970B 0x0E 0 0 0 = some (⟨0, 2, 0xFFFFFFFFFFFFFE5C, 0⟩, 0x1D000000003F970B) ∧
    ask 0x00FFFFFFFFC00048 0x0E 0 0 0 = some (⟨0, 2, 1, 0⟩, 0x00FFFFFFFFC00048) ∧
    ask 0x00FFFFFFFFFFFFCC 0x0E 0 0 0 = some (⟨0, 3, 0, 0⟩, 0x00FFFFFFFFFFFFCC) ∧
    ask 0x0000000000007FD1 0x0E 0 0 0 = some (⟨0, 4, 0xFF, 0⟩, 0x0000000000007FD1) ∧
    ask 0x6000000000000A95 0x0E 0 0 0 = some (⟨0, 5, 0x2A, 0⟩, 0x6000000000000A95) ∧
    ask 0x4300000000000A98 0x0E 0 0 0 = some (⟨0, 6, 0x2A, 0⟩, 0x4300000000000A98) ∧
    ask 0x62000000003FFFDF 0x0E 0 0 0 = some (⟨0, 7, 0xFFFF, 0⟩, 0x62000000003FFFDF) ∧
    ask 0x6E000000000000A1 0x0E 0 0 0 = some (⟨0, 8, 2, 0⟩, 0x6E000000000000A1) ∧
    ask 0xC300000000690065 0x0E 0 0 0 = some (⟨0, 9, 1, 0x01A4⟩, 0xC300000000690065) ∧
    ask 0x00FFFFFFFFFFFFE4 0x0E 0 0 0 = some (⟨0, 9, 0xFF, 0xFFFF⟩, 0x00FFFFFFFFFFFFE4) ∧
    ask 0x160000000000006B 0x0E 0 0 0 = some (⟨0, 0xA, 1, 0⟩, 0x160000000000006B) := by
  decide +kernel

/-- V-DEC-22 to V-DEC-26, and V-EX-5 with an invalid checksum. -/
theorem test_dec_params_unknown :
    ask 0xC40000000000002C 0x0E 0 0 0 = some (⟨2, 0, 0, 0⟩, 0xC40000000000002C) ∧
    ask 0x9000000000000030 0x0E 0 0 0 = some (⟨2, 0, 0, 0⟩, 0x9000000000000030) ∧
    ask 0x8C00000000000034 0x0E 0 0 0 = some (⟨2, 0, 0, 0⟩, 0x8C00000000000034) ∧
    ask 0xA800000000000038 0x0E 0 0 0 = some (⟨2, 0, 0, 0⟩, 0xA800000000000038) ∧
    ask 0xB40000000000003C 0x0E 0 0 0 = some (⟨2, 0, 0, 0⟩, 0xB40000000000003C) ∧
    ask 0x000000000000003C 0x0E 0 0 0 = some (⟨2, 0, 0, 0⟩, 0x000000000000003C) := by
  decide +kernel

/-- V-ERR-1 to V-ERR-3, and the op codes between. -/
theorem test_reserved :
    ask 0x4F00000000013480 0x0F 1 2 3 = some (⟨3, 0, 0, 0⟩, 0x4F00000000013480) ∧
    ask 0x4F00000000013480 0x1B 0xFFFFFFFFFFFFFFFF 0 0 = some (⟨3, 0, 0, 0⟩, 0x4F00000000013480) ∧
    ask 0x4F00000000013480 0x1C 0xFFFFFFFFFFFFFFFF 0 0 = some (⟨3, 0, 0, 0⟩, 0x4F00000000013480) ∧
    ask 0x4F00000000013480 0x1D 0xFFFFFFFFFFFFFFFF 0 0 = some (⟨3, 0, 0, 0⟩, 0x4F00000000013480) ∧
    ask 0x4F00000000013480 0x1E 0xFFFFFFFFFFFFFFFF 0 0 = some (⟨3, 0, 0, 0⟩, 0x4F00000000013480) ∧
    ask 0x4F00000000013480 0x1F 0xFFFFFFFFFFFFFFFF 0 0 = some (⟨3, 0, 0, 0⟩, 0x4F00000000013480) := by
  decide +kernel

/-- A placed frame is the next thing a step runs: V-DEC-6, 8 to 21. -/
theorem test_step_runs_placed_frames :
    stepWord 0 64 0x4F00000000013480 = some (⟨0, 0, 0x4D2, 0⟩, 0x4F00000000013480) ∧
    stepWord 0 64 0x5000000000007D05 = some (⟨0, 1, 0x1F4, 0⟩, 0x5000000000007D05) ∧
    stepWord 0 64 0x1D000000003F970B = some (⟨0, 2, 0xFFFFFFFFFFFFFE5C, 0⟩, 0x1D000000003F970B) ∧
    stepWord 0 64 0x230000000000000D = some (⟨0, 3, 0, 0⟩, 0x230000000000000D) ∧
    stepWord 0 64 0xB000000000000051 = some (⟨0, 4, 1, 0⟩, 0xB000000000000051) ∧
    stepWord 0 64 0x6000000000000A95 = some (⟨0, 5, 0x2A, 0⟩, 0x6000000000000A95) ∧
    stepWord 0 64 0x4300000000000A98 = some (⟨0, 6, 0x2A, 0⟩, 0x4300000000000A98) ∧
    stepWord 0 64 0x62000000003FFFDF = some (⟨0, 7, 0xFFFF, 0⟩, 0x62000000003FFFDF) ∧
    stepWord 0 64 0x6E000000000000A1 = some (⟨0, 8, 2, 0⟩, 0x6E000000000000A1) ∧
    stepWord 0 64 0xC300000000690065 = some (⟨0, 9, 1, 0x01A4⟩, 0xC300000000690065) ∧
    stepWord 0 64 0x160000000000006B = some (⟨0, 10, 1, 0⟩, 0x160000000000006B) := by
  decide +kernel

/-- V-DEC-22 to V-DEC-26. -/
theorem test_step_runs_placed_unassigned_frames :
    stepWord 0 64 0xC40000000000002C = some (⟨2, 0, 0, 0⟩, 0xC40000000000002C) ∧
    stepWord 0 64 0x9000000000000030 = some (⟨2, 0, 0, 0⟩, 0x9000000000000030) ∧
    stepWord 0 64 0x8C00000000000034 = some (⟨2, 0, 0, 0⟩, 0x8C00000000000034) ∧
    stepWord 0 64 0xA800000000000038 = some (⟨2, 0, 0, 0⟩, 0xA800000000000038) ∧
    stepWord 0 64 0xB40000000000003C = some (⟨2, 0, 0, 0⟩, 0xB40000000000003C) := by
  decide +kernel

/-- A placed request is the next thing a step runs (P1 step 1, P3 step 8). -/
theorem test_step_runs_placed_requests :
    stepWord 0 104 0x0000009A400000000000000010 = some (⟨0, 0, 0x4F00000000013480, 0⟩, 0x4F00000000013480) ∧
    stepWord 5 8 0x1F = some (⟨3, 0, 0, 0⟩, 5) := by
  decide +kernel

/-! ### The port and reset -/

/-- A cycle that presents ENC_MOVE a=0, b=1234 (V-EX-1). -/
def presentMove : PortCycle :=
  { PortCycle.quiet with reqValid := true, req := { op := 0x10, a := 0, b := 1234, c := 0 } }

/-- A cycle in which the core needs another one. -/
def waiting : PortCycle := { PortCycle.quiet with wait := true }

/-- A cycle in which the host takes the response. -/
def taking : PortCycle := { PortCycle.quiet with rspReady := true }

/-- A cycle with reset asserted. -/
def resetting : PortCycle := { PortCycle.quiet with reset := true }

/-- The reset state with the host's cycles given. -/
def driven (l : List PortCycle) : State := { State.reset with inputs := l }

/-- BUSY, RSP_VALID and the responses taken, after an outcome. -/
def port : Host.Outcome State Fault Refusal → Option (Bool × Bool × List Response)
  | .next t => some (t.busy, t.rspValid, t.taken)
  | .fault _ => none
  | .refused _ => none

/-- R24: acceptance latches the request and sets BUSY. -/
theorem test_request_is_accepted :
    port (step (driven [presentMove])) = some (true, false, []) ∧
      port (step (driven [])) = some (false, false, []) := by
  decide +kernel

/-- R25, R26: a response is held without RSP_READY, and handed over with it. -/
theorem test_response_is_handed_over :
    port (step { holding 0 with rspValid := true, rsp := ⟨0, 0, 7, 0⟩ }) = some (true, true, []) ∧
      port (step { holding 0 with rspValid := true, rsp := ⟨0, 0, 7, 0⟩, inputs := [taking] }) =
        some (false, false, [⟨0, 0, 7, 0⟩]) := by
  decide +kernel

/-- R7: while the core needs a further cycle, nothing is shown. -/
theorem test_core_may_need_cycles :
    port (step { holding 0 with inputs := [waiting] }) = some (true, false, []) := by
  decide +kernel

/-- V-RST-5: a request abandoned by reset leaves no response, and FR = 0. -/
theorem test_reset_abandons_the_request :
    shown (step { holding 5 with inputs := [resetting] }) = some (⟨0, 0, 0, 0⟩, 0) ∧
      port (step { holding 5 with inputs := [resetting] }) = some (false, false, []) := by
  decide +kernel

/-- V-RST-1. -/
theorem test_reset_state :
    State.reset.fr = 0 ∧ State.reset.engine = ⟨0, 0, 0⟩ ∧ State.reset.busy = false ∧
      State.reset.rspValid = false := by
  decide

/-! ### The table, the assembler and the wire -/

/-- The 48 rows have 48 names, 32 of them requests. -/
theorem test_table_has_48_rows :
    opcodeTable.length = 48 ∧ (opcodeTable.map (fun r => r.mnemonic)).Nodup ∧ requestRows.length = 32 := by
  decide +kernel

/-- R90 and R91: symbols stand for their numbers, and ENCODE with command TURN is ENC_TURN (V-EX-2: -420 is
0xFE5C). -/
theorem test_assemble_encode :
    (assemble (.encode (.sym .gripCtrl) (.sym .turn) (.num (-420)) (.num 0))).map (List.map fun r => r 0) =
      some [{ op := 0x12, a := 3, b := 0xFE5C, c := 0 }] ∧
    (assemble (.encode (.num 0) (.num 11) (.num 0) (.num 0))).isNone = true ∧
    (assemble (.decWrap (.num (2 ^ 64)))).isNone = true ∧ opOfMnemonic "ENC_TURN" = some 0x12 := by
  decide +kernel

/-- R11 and R90: a request line keeps A, B and C apart (P4 step 1). -/
theorem test_assemble_request :
    (assemble (.request 0x19 (.sym .motionCtrl) (.sym .distance) (.num 420))).map (List.map fun r => r 0) =
      some [{ op := 0x19, a := 1, b := 1, c := 420 }] := by
  decide +kernel

/-- Responses no row of R85 gives: STOP with data, INFO's flag or a MOVE-like field too wide, a TURN that is no
sign-extended angle. -/
theorem test_response_not_legal :
    ¬ responseLegal ⟨0, 3, 5, 0⟩ ∧ ¬ responseLegal ⟨0, 4, 256, 0⟩ ∧ ¬ responseLegal ⟨0, 7, 65536, 0⟩ ∧
      ¬ responseLegal ⟨0, 2, 0x8000, 0⟩ := by
  refine ⟨fun h => absurd (h.d0_none rfl) (by decide), fun h => absurd (h.d0_u8 (.inl rfl)) (by decide),
    fun h => absurd (h.d0_u16 (.inr rfl)) (by decide), fun h => ?_⟩
  obtain ⟨angle, h⟩ := h.d0_s16 rfl
  have h1 := congrArg BitVec.toInt h
  rw [BitVec.toInt_signExtend_of_le (by decide)] at h1
  have h2 := BitVec.toInt_lt (x := angle)
  rw [← h1] at h2
  exact absurd h2 (by decide)

/-- P2 steps 6 to 8: STAMP after the setters gives the encoder's frame. -/
theorem test_stamp :
    (assemble .stamp).bind (fun l => shown (serveRequests l 0 (holding 0x3F970B))) =
      some (⟨0, 0, 0x1D000000003F970B, 0⟩, 0x1D000000003F970B) := by
  decide +kernel

/-- R44: most significant byte first, and back. -/
theorem test_wire :
    toWire [7, 6, 5, 4, 3, 2, 1, 0] 0x0102030405060708 = [1, 2, 3, 4, 5, 6, 7, 8] ∧
      fromWire [7, 6, 5, 4, 3, 2, 1, 0] [1, 2, 3, 4, 5, 6, 7, 8] = 0x0102030405060708 := by
  decide

/-! ### What meets the hypotheses of each obligation -/

theorem witness_DecodeAfterEncode :
    (Instr.encTurn (2 ^ 64 - 1) (-32768)).wf = true ∧ (Instr.frameResponse 3 0x3FFFFFFFFFFFF 0xFF).wf = true := by
  decide

theorem witness_DecodePicksTheOneTableRow :
    requestRow "FR_SET_CMD" 3 ∈ opcodeTable ∧ rowMatches (requestRow "FR_SET_CMD" 3) (.req 0x43) = true ∧
      frameRow "FRAME_UNASSIGNED_F" 15 ∈ opcodeTable ∧
      rowMatches (frameRow "FRAME_UNASSIGNED_F" 15) (.frame 0x3F) = true := by
  decide +kernel

theorem witness_UnreadOperandBitsAreIgnored :
    0x00#5 ∈ [0x00#5, 0x06#5, 0x07#5, 0x08#5, 0x09#5, 0x0A#5, 0x0B#5, 0x0D#5, 0x0E#5, 0x0F#5, 0x1B#5, 0x1C#5,
        0x1D#5, 0x1E#5, 0x1F#5] ∧
      0x13#5 ∈ [0x01#5, 0x02#5, 0x03#5, 0x04#5, 0x05#5, 0x13#5] ∧
      0x17#5 ∈ [0x0C#5, 0x10#5, 0x11#5, 0x12#5, 0x17#5] ∧ 0x1A#5 ∈ [0x14#5, 0x15#5, 0x16#5, 0x18#5, 0x1A#5] ∧
      (0xFF01#16).toNat % 256 = (0x0001#16).toNat % 256 := by
  decide

theorem witness_StepRunsTheDecodedInstruction :
    (holding 0x4F00000000013480).busy = true ∧ (holding 0x4F00000000013480).rspValid = false ∧ (currentCycle (holding 0x4F00000000013480)).reset = false ∧
      (currentCycle (holding 0x4F00000000013480)).wait = false ∧ Instr.frClear.wf = true ∧
      encode .frClear = .req (packRequest (holding 0x4F00000000013480).req) ∧ (Instr.frameMove 0 1234 0x4F).wf = true ∧
      encode (.frameMove 0 1234 0x4F) = .frame (withAccepted decParamsRequest (holding 0x4F00000000013480)).fr ∧
      (withAccepted decParamsRequest (holding 0x4F00000000013480)).req.op = 0x0E#5 := by
  decide +kernel

theorem witness_PlacedWordRunsNext :
    decodeTableWord 104 0x1F = some .reserved1F ∧
      decodeTableWord 64 0x4F00000000013480 = some (.frameMove 0 1234 0x4F) := by
  decide

theorem witness_ConstructorsWriteTheWholeFrame :
    (2 ^ 64 - 1 : Nat) < 2 ^ 64 ∧ (2 ^ 64 : Nat) ≤ 2 ^ 64 := by
  decide

theorem witness_CheckedSettersReplaceOnlyTheirField :
    (3 : Nat) < 4 ∧ (4 : Nat) ≤ 4 ∧ (15 : Nat) < 16 ∧ (16 : Nat) ≤ 16 ∧ (255 : Nat) < 256 ∧ (256 : Nat) ≤ 256 ∧
      (63 : Nat) < 64 := by
  decide

theorem witness_SetParameterTruncates :
    (6 : Nat) < 64 ∧ (55 : Nat) < 64 ∧ (56 : Nat) < 64 := by
  decide

theorem witness_SettersInAnyOrderBuildTheFrame :
    (3 : Nat) < 4 ∧ (15 : Nat) < 16 ∧ (255 : Nat) < 256 ∧
      [Instr.frSetCsum 255, .frSetParam (2 ^ 64 - 1), .frSetCmd 15, .frSetAddr 3].Perm
        [.frSetAddr 3, .frSetCmd 15, .frSetParam (2 ^ 64 - 1), .frSetCsum 255] := by
  decide +kernel

theorem witness_SetterThenGetter :
    ∃ t u v w, (3 : Nat) < 4 ∧ exec (.frSetAddr 3) (holding 0) = .next t ∧ (15 : Nat) < 16 ∧
      exec (.frSetCmd 15) (holding 0) = .next u ∧ exec (.frSetParam (2 ^ 64 - 1)) (holding 0) = .next v ∧
      (255 : Nat) < 256 ∧ exec (.frSetCsum 255) (holding 0) = .next w := 
  ⟨_, _, _, _, by decide, rfl, by decide, rfl, rfl, by decide, rfl⟩

theorem witness_FieldChangeMakesAValidFrameInvalid :
    ∃ t u v, frameValid (holding 0x4F00000000013480).fr ∧
      (exec (.frSetAddr 3) (holding 0x4F00000000013480) = .next t ∧ t.fr ≠ 0x4F00000000013480) ∧
      (exec (.frSetCmd 15) (holding 0x4F00000000013480) = .next u ∧ u.fr ≠ 0x4F00000000013480) ∧
      (exec (.frSetCsum 255) (holding 0x4F00000000013480) = .next v ∧ v.fr ≠ 0x4F00000000013480) := 
  ⟨_, _, _, by unfold frameValid; decide +kernel, ⟨rfl, by decide +kernel⟩, ⟨rfl, by decide +kernel⟩, ⟨rfl, by decide +kernel⟩⟩

theorem witness_EngineTakesWidthStepsToTheCrc :
    0 ≤ (0#16).toNat ∧ 65535 ≤ (65535#16).toNat := by
  decide

theorem witness_CrcBitsPerStepChangesNoResult :
    0 < 8 ∧ (65535#16).toNat ≤ 8 * 8192 ∧ (0#16).toNat ≤ 1 * 0 := by
  decide

theorem witness_Crc8AnswersTheCrc :
    (2 ^ 64 - 1 : Nat) < 2 ^ 64 := by
  decide

theorem witness_EngineHoldsItsLastComputation :
    ∃ t u v, (2 ^ 64 - 1 : Nat) < 2 ^ 64 ∧ exec (.crc8 (2 ^ 64 - 1) 64) (holding 0) = .next t ∧
      exec .decVerify (holding 0) = .next u ∧ (3 : Nat) < 4 ∧
      exec (encoderFor 3 (.turn (-1))) (holding 0) = .next v := 
  ⟨_, _, _, by decide, rfl, rfl, by decide, rfl⟩

/-- A request of the op code named, with operands its operation ignores or cuts (B[15:8]). -/
theorem witness_requestNames :
    ({ op := 0x19, a := 3, b := 0xFF01, c := 420 } : Request).op = 0x19 ∧
      ({ op := 0x00, a := 3, b := 0xFF01, c := 420 } : Request).op = 0x00 := by
  decide

theorem witness_CrcReadsOnlyItsWindow :
    (0x107 : Nat) < 2 ^ 9 ∧ 9 ≤ 56 := by
  decide

theorem witness_OneAndTwoBitErrorsAreDetected :
    frameValid 0x4F00000000013480 ∧ (0 : Nat) < 64 ∧ (63 : Nat) < 64 ∧ (0 : Nat) ≠ 63 := by
  unfold frameValid
  decide +kernel

theorem witness_PackRules :
    (-32768 : Int) ≤ -32768 ∧ (-32768 : Int) ≤ 32767 ∧ (-32768 : Int) ≤ 32767 ∧ (32767 : Int) ≤ 32767 := by
  decide

theorem witness_UnpackRules :
    11 ≤ (0xB#4).toNat ∧ 11 ≤ (0xF#4).toNat := by
  decide

theorem witness_UnpackAfterPack :
    (Variant.turn (-32768)).wf = true ∧ (Variant.turn 32767).wf = true ∧ (Variant.response 0xFF 0xFFFF).wf = true := by
  decide

theorem witness_PackAfterUnpackKeepsTheUsedBits :
    unpackDispatch 0x9 0x3FFFFFFFFFFFF = some (.response 0xFF 0xFFFF) ∧
      unpackDispatch 0x2 0x8000 = some (.turn (-32768)) ∧ unpackDispatch 0x3 0x3FFFFFFFFFFFF = some .stop ∧
      unpackDispatch 0xA 0 = some (.crane 0) := by
  decide +kernel

theorem witness_EncodersOfSixteenBitFields :
    (-32768 : Int) ≤ -32768 ∧ (32767 : Int) ≤ 32767 ∧ (3 : Nat) < 4 ∧ (4 : Nat) ≤ 4 := by
  decide

theorem witness_EncodersOfEightBitFields :
    (0 : Nat) < 4 ∧ (3 : Nat) < 4 ∧ (4 : Nat) ≤ 4 := by
  decide

theorem witness_EncodersOfStopAndResponse :
    (0 : Nat) < 4 ∧ (3 : Nat) < 4 ∧ (4 : Nat) ≤ 4 := by
  decide

theorem witness_EncoderEqualsTheSetterSequence :
    (3 : Nat) < 4 ∧ (Variant.turn (-32768)).wf = true ∧ Variant.stop.wf = true := by
  decide

theorem witness_DecodeRunAfterEncoder :
    (3 : Nat) < 4 ∧ (Variant.turn 32767).wf = true ∧ (Variant.response 0xFF 0xFFFF).wf = true := by
  decide

theorem witness_DecParamsAnswersTheVariant :
    (List.range 16).map (fun k => (holding (BitVec.ofNat 64 (4 * k))).fr.toNat / 4 % 16) = List.range 16 ∧
      0xFE5C = (holding 0x1D000000003F970B).fr.toNat / 64 % 2 ^ 50 := by
  decide +kernel

theorem witness_FrameWordsAnswerTheirVariant :
    (-32768 : Int) = (if (0x8000#50).toNat % 65536 < 32768 then ((0x8000#50).toNat % 65536 : Int)
        else ((0x8000#50).toNat % 65536 : Int) - 65536) ∧
      (32767 : Int) = (if (0x7FFF#50).toNat % 65536 < 32768 then ((0x7FFF#50).toNat % 65536 : Int)
        else ((0x7FFF#50).toNat % 65536 : Int) - 65536) := by
  decide

theorem witness_FlippedChecksumFailsVerify :
    ∃ t u, exec .decVerify (holding 0x4F00000000013480) = .next t ∧ t.rsp.d0 = 1 ∧
      exec .decVerify { holding 0x4F00000000013480 with
        fr := (holding 0x4F00000000013480).fr ^^^ 0xFF00000000000000#64 } = .next u := 
  ⟨_, _, rfl, by decide +kernel, rfl⟩

theorem witness_ReservedOpsAnswerIllegalOp :
    decodeTableWord 8 0x1B = some .reserved1B ∧ 0x0F#5 = 0x0F#5 ∧ 0x1B ≤ (0x1B#5).toNat ∧ 0x1B ≤ (0x1F#5).toNat := by
  decide

theorem witness_ErrorStatusesHaveExactlyTheirCauses :
    ∃ t u v, exec (decodeRequest { op := 0x05, a := 256, b := 0, c := 0 }) (holding 0) = .next t ∧
      t.rsp.status = statusCode .rangeError ∧
      exec (decodeRequest { op := 0x0E, a := 0, b := 0, c := 0 }) (holding 0x2C) = .next u ∧
      u.rsp.status = statusCode .unknownCommand ∧
      exec (decodeRequest { op := 0x0F, a := 0, b := 0, c := 0 }) (holding 0) = .next v ∧
      v.rsp.status = statusCode .illegalOp := 
  ⟨_, _, _, rfl, by decide +kernel, rfl, by decide +kernel, rfl, by decide +kernel⟩

theorem witness_ErrorsWriteNoState :
    ∃ t, exec (.frSetAddr 4) (holding 0) = .next t ∧ t.rsp.status ≠ 0 := 
  ⟨_, rfl, by decide +kernel⟩

theorem witness_FrHasExactlyItsWritersAndReaders :
    (∃ t u, exec (decodeRequest { op := 0x0C, a := 5, b := 8, c := 0 }) (holding 0) = .next t ∧
        exec (decodeRequest { op := 0x0C, a := 5, b := 8, c := 0 }) { holding 0 with fr := 7 } = .next u) ∧
      (∃ t, exec (decodeRequest { op := 0x02, a := 4, b := 0, c := 0 }) (holding 0) = .next t ∧ t.rsp.status ≠ 0) ∧
      (∃ t, exec (decodeRequest { op := 0x02, a := 3, b := 0, c := 0 }) (holding 0) = .next t ∧ t.rsp.status = 0) ∧
      (∃ t, exec (decodeRequest { op := 0x03, a := 15, b := 0, c := 0 }) (holding 0) = .next t ∧ t.rsp.status = 0) ∧
      (∃ t, exec (decodeRequest { op := 0x04, a := 5, b := 0, c := 0 }) (holding 0) = .next t ∧ t.rsp.status = 0) ∧
      (∃ t, exec (decodeRequest { op := 0x05, a := 255, b := 0, c := 0 }) (holding 0) = .next t ∧ t.rsp.status = 0) ∧
      ∃ t u, exec (decodeRequest { op := 0x10, a := 0, b := 1, c := 0 }) (holding 0) = .next t ∧ t.rsp.status = 0 ∧
        exec (decodeRequest { op := 0x10, a := 0, b := 1, c := 0 }) { holding 0 with fr := 7 } = .next u := 
  ⟨⟨_, _, rfl, rfl⟩, ⟨_, rfl, by decide +kernel⟩, ⟨_, rfl, by decide +kernel⟩, ⟨_, rfl, by decide +kernel⟩,
    ⟨_, rfl, by decide +kernel⟩, ⟨_, rfl, by decide +kernel⟩, _, _, rfl, by decide +kernel, rfl⟩

/-- The steps of the last clause: idle, holding a response, and waiting. -/
theorem witness_FrHasExactlyItsWritersAndReaders_steps :
    (∃ t, step (driven []) = .next t ∧ (currentCycle (driven [])).reset = false ∧ (driven []).busy = false) ∧
      (∃ t, step { holding 5 with rspValid := true } = .next t ∧
        (currentCycle { holding 5 with rspValid := true }).reset = false) ∧
      ∃ t, step { holding 5 with inputs := [waiting] } = .next t ∧
        (currentCycle { holding 5 with inputs := [waiting] }).reset = false ∧
        (currentCycle { holding 5 with inputs := [waiting] }).wait = true := 
  ⟨⟨_, rfl, rfl, rfl⟩, ⟨_, rfl, rfl⟩, _, rfl, rfl, rfl⟩

theorem witness_AnswerDependsOnlyOnFr :
    ∃ t t', (holding 5).fr = { holding 5 with engine := ⟨1, 2, 3⟩, rsp := ⟨3, 0, 0, 0⟩ }.fr ∧
      exec .frGetRaw (holding 5) = .next t ∧
      exec .frGetRaw { holding 5 with engine := ⟨1, 2, 3⟩, rsp := ⟨3, 0, 0, 0⟩ } = .next t' := 
  ⟨_, _, rfl, rfl, rfl⟩

theorem witness_RepeatedRequestChangesNothing :
    ∃ t, exec (.encMove 0 1234) (holding 0) = .next t := 
  ⟨_, rfl⟩

theorem witness_RequestIsAcceptedWhenReady :
    ∃ t u v, ((currentCycle (driven [presentMove])).reset = false ∧ step (driven [presentMove]) = .next t ∧
        (driven [presentMove]).busy = false ∧ (currentCycle (driven [presentMove])).reqValid = true) ∧
      ((currentCycle (driven [])).reset = false ∧ step (driven []) = .next u ∧ (driven []).busy = false ∧
        (currentCycle (driven [])).reqValid = false) ∧
      (currentCycle (holding 0)).reset = false ∧ step (holding 0) = .next v ∧ (holding 0).busy = true := 
  ⟨_, _, _, ⟨rfl, rfl, rfl, rfl⟩, ⟨rfl, rfl, rfl, rfl⟩, rfl, rfl, rfl⟩

/-- A state in which a response is held. -/
def answering (l : List PortCycle) : State := { holding 0 with rspValid := true, inputs := l }

theorem witness_ResponseIsHeldUntilTaken :
    (currentCycle (answering [])).reset = false ∧ (answering []).busy = true ∧ (answering []).rspValid = true ∧
      (currentCycle (answering [])).rspReady = false ∧ (currentCycle (answering [taking])).reset = false ∧
      (currentCycle (answering [taking])).rspReady = true := by
  decide

theorem witness_AcceptedRequestCompletes :
    (holding 0).busy = true ∧ (holding 0).rspValid = false ∧
      { holding 0 with inputs := [waiting, waiting, taking, presentMove] }.inputs =
        [waiting, waiting] ++ taking :: [presentMove] ∧
      (∀ x ∈ [waiting, waiting], x.reset = false ∧ x.wait = true) ∧ taking.reset = false ∧ taking.wait = false := by
  decide

theorem witness_UntakenResponseLeavesTheCoreStuck :
    (answering [presentMove, waiting]).busy = true ∧ (answering [presentMove, waiting]).rspValid = true ∧
      ∀ c ∈ (answering [presentMove, waiting]).inputs, c.reset = false ∧ c.rspReady = false := by
  decide

/-- One request with a cycle before it, two more for its execution, and one in which its response waits. -/
def timedMove : TimedRequest :=
  { before := [taking], present := presentMove, working := [waiting, waiting], finish := presentMove,
    holding := [PortCycle.quiet], take := taking }

theorem witness_RunShowsItsRequestsInOrder :
    Inv (driven timedMove.cycles) ∧ (driven timedMove.cycles).busy = false ∧ (∀ x ∈ [timedMove], x.ok) ∧
      (driven timedMove.cycles).inputs = [timedMove].flatMap TimedRequest.cycles := by
  refine ⟨⟨nofun, rfl, nofun, nofun⟩, rfl, ?_, by decide⟩
  intro x hx
  rw [List.mem_singleton.1 hx]
  refine ⟨?_, ?_, ?_, ?_, ?_, ?_, ?_⟩ <;> decide

theorem witness_ResetClearsTheCore :
    (currentCycle { answering [resetting] with fr := 5 }).reset = true := by
  decide

theorem witness_StepKeepsTheInvariant :
    Inv State.reset ∧ ∃ t, step State.reset = .next t := 
  ⟨⟨nofun, rfl, nofun, nofun⟩, _, rfl⟩

theorem witness_PseudoOperationsExpand :
    (0 : Int) ≤ operandValue (.num 0) ∧ operandValue (.num (2 ^ 64 - 1)) < 2 ^ 64 ∧
      (if (0x12#5) = 0x12 then (-32768 : Int) else 0) ≤ operandValue (.num (-32768)) ∧
      (if (0x10#5) = 0x12 then (-32768 : Int) else 0) ≤ operandValue (.sym .move) ∧
      operandValue (.num 65535) < 65536 ∧
      (0 : Int) ≤ operandValue (.sym .move) ∧ operandValue (.sym .move) ≤ 10 ∧ (0 : Int) ≤ operandValue (.num 10) ∧
      operandValue (.num 10) ≤ 10 ∧ operandValue (.num (-1)) < 0 ∧ 10 < operandValue (.num 11) := by
  decide

theorem witness_FrameCrossesTheWireWhole :
    WireByteOrder.valid (List.range 8) ∧ WireByteOrder.valid [7, 6, 5, 4, 3, 2, 1, 0] := by
  unfold WireByteOrder.valid
  decide

end Sys2Proof.Tests
end

section
/-! SUPPORT. The decoder on the encoder's words, and the instruction of an op code. -/

namespace Sys2Proof

/-! ### Decoding what the encoder wrote (30_encoding.md R80, R84, R60) -/

@[simp] theorem decode_requestCode (op : BitVec 5) (a : Nat) (b c : BitVec 16) :
    decode (requestCode op a b c) = decodeRequest { op := op, a := BitVec.ofNat 64 a, b := b, c := c } := by
  rw [requestCode, decode, unpackRequest_packRequest]

@[simp] theorem decode_frameCode (k : Cmd) (a : Addr) (p : Param) (x : Csum) :
    decode (frameCode k a p x) = decodeFrame (mkFrame x p k a) := rfl

theorem operandA_ofNat {a : Nat} (h : fitsA a = true) (op : BitVec 5) (b c : BitVec 16) :
    operandA { op := op, a := BitVec.ofNat 64 a, b := b, c := c } = a :=
  Nat.mod_eq_of_lt ((fitsA_iff a).1 h)

theorem operandBSigned_ofInt {n : Int} (h : fitsS16 n = true) (op : BitVec 5) (a : BitVec 64) (c : BitVec 16) :
    operandBSigned { op := op, a := a, b := BitVec.ofInt 16 n, c := c } = n := by
  have hn := (fitsS16_iff n).1 h
  rw [operandBSigned, BitVec.toInt_ofInt]
  exact Int.bmod_eq_of_le (by omega) (by omega)

@[simp] theorem operandB8_setWidth (x : BitVec 8) (op : BitVec 5) (a : BitVec 64) (c : BitVec 16) :
    operandB8 { op := op, a := a, b := x.setWidth 16, c := c } = x := by
  apply BitVec.eq_of_getLsbD_eq
  intro i hi
  have h16 : i < 16 := by omega
  simp [operandB8, hi, h16]

/-- A well-formed instruction comes back from its word. -/
theorem decode_encode (i : Instr) (h : i.wf = true) : decode (encode i) = i := by
  cases i with
  | frClear | frGetAddr | frGetCmd | frGetParam | frGetCsum | frGetPayload | frGetRaw | decVerify | decParams
  | reserved0F | reserved1B | reserved1C | reserved1D | reserved1E | reserved1F =>
    rw [encode, decode_requestCode]
    rfl
  | frLoad a | frSetAddr a | frSetCmd a | frSetParam a | frSetCsum a | crc8 a w | encMove a d
  | encReverse a d | encStop a | encError a c =>
    simp [encode, decodeRequest, operandA_ofNat (a := a) h, operandB16]
  | encTurn a angle =>
    obtain ⟨ha, hangle⟩ : fitsA a = true ∧ fitsS16 angle = true := by simpa [Instr.wf] using h
    simp [encode, decodeRequest, operandA_ofNat ha, operandBSigned_ofInt hangle]
  | encInfo a b | encPing a b | encPong a b | encPoll a b | encResponse a b c | encCrane a b =>
    simp [encode, decodeRequest, operandA_ofNat (a := a) h, operandC16]
  | frameMove | frameReverse | frameTurn | frameStop | frameInfo | framePing | framePong | frameError
  | framePoll | frameResponse | frameCrane | frameUnassignedB | frameUnassignedC | frameUnassignedD
  | frameUnassignedE | frameUnassignedF =>
    simp [encode, decodeFrame]

/-! ### The instruction of an op code (30_encoding.md R81) -/

section OpCodes

variable {r : Request}

theorem decodeRequest_frClear (h : r.op = 0x00) : decodeRequest r = .frClear := by
  simp [decodeRequest, h]

theorem decodeRequest_frLoad (h : r.op = 0x01) : decodeRequest r = .frLoad r.a.toNat := by
  simp [decodeRequest, operandA, h]

theorem decodeRequest_frSetAddr (h : r.op = 0x02) : decodeRequest r = .frSetAddr r.a.toNat := by
  simp [decodeRequest, operandA, h]

theorem decodeRequest_frSetCmd (h : r.op = 0x03) : decodeRequest r = .frSetCmd r.a.toNat := by
  simp [decodeRequest, operandA, h]

theorem decodeRequest_frSetParam (h : r.op = 0x04) : decodeRequest r = .frSetParam r.a.toNat := by
  simp [decodeRequest, operandA, h]

theorem decodeRequest_frSetCsum (h : r.op = 0x05) : decodeRequest r = .frSetCsum r.a.toNat := by
  simp [decodeRequest, operandA, h]

theorem decodeRequest_crc8 (h : r.op = 0x0C) : decodeRequest r = .crc8 r.a.toNat r.b := by
  simp [decodeRequest, operandA, operandB16, h]

theorem decodeRequest_decVerify (h : r.op = 0x0D) : decodeRequest r = .decVerify := by
  simp [decodeRequest, h]

theorem decodeRequest_decParams (h : r.op = 0x0E) : decodeRequest r = .decParams := by
  simp [decodeRequest, h]

end OpCodes

end Sys2Proof
end

section
/-! SUPPORT. What a step does, what an instruction does, how FR is used, and runs of several cycles. -/

namespace Sys2Proof.Machine

/-! ### What one port cycle does (10_state.md R24 to R27, 70_reset_and_hazards.md R251) -/

section StepBranches

variable {s : State}

theorem step_reset (hreset : (currentCycle s).reset = true) : step s = .next (resetCore (dropCycle s)) := by
  simp [step, hreset]

theorem step_accept (hreset : (currentCycle s).reset = false) (hbusy : s.busy = false)
    (hreq : (currentCycle s).reqValid = true) :
    step s = .next (acceptRequest (currentCycle s).req (dropCycle s)) := by
  simp [step, reqReady, hreset, hbusy, hreq]

theorem step_idle (hreset : (currentCycle s).reset = false) (hbusy : s.busy = false)
    (hreq : (currentCycle s).reqValid = false) : step s = .next (dropCycle s) := by
  simp [step, reqReady, hreset, hbusy, hreq]

theorem step_handOff (hreset : (currentCycle s).reset = false) (hbusy : s.busy = true)
    (hvalid : s.rspValid = true) (hready : (currentCycle s).rspReady = true) :
    step s = .next (takeResponse (dropCycle s)) := by
  simp [step, reqReady, hreset, hbusy, hvalid, hready]

theorem step_hold (hreset : (currentCycle s).reset = false) (hbusy : s.busy = true)
    (hvalid : s.rspValid = true) (hready : (currentCycle s).rspReady = false) :
    step s = .next (dropCycle s) := by
  simp [step, reqReady, hreset, hbusy, hvalid, hready]

theorem step_wait (hreset : (currentCycle s).reset = false) (hbusy : s.busy = true)
    (hvalid : s.rspValid = false) (hwait : (currentCycle s).wait = true) :
    step s = .next (dropCycle s) := by
  simp [step, reqReady, hreset, hbusy, hvalid, hwait]

theorem step_execute (hreset : (currentCycle s).reset = false) (hbusy : s.busy = true)
    (hvalid : s.rspValid = false) (hwait : (currentCycle s).wait = false) :
    step s = exec (decodeRequest s.req) (dropCycle s) := by
  simp [step, reqReady, hreset, hbusy, hvalid, hwait]

end StepBranches

/-- What happened in a port cycle whose step goes on, with the conditions it happens under. -/
inductive PortEvent (s : State) : State → Prop
  | reset (hreset : (currentCycle s).reset = true) : PortEvent s (resetCore (dropCycle s))
  | accept (hreset : (currentCycle s).reset = false) (hbusy : s.busy = false)
      (hreq : (currentCycle s).reqValid = true) :
      PortEvent s (acceptRequest (currentCycle s).req (dropCycle s))
  | idle (hreset : (currentCycle s).reset = false) (hbusy : s.busy = false)
      (hreq : (currentCycle s).reqValid = false) : PortEvent s (dropCycle s)
  | handOff (hreset : (currentCycle s).reset = false) (hbusy : s.busy = true) (hvalid : s.rspValid = true)
      (hready : (currentCycle s).rspReady = true) : PortEvent s (takeResponse (dropCycle s))
  | hold (hreset : (currentCycle s).reset = false) (hbusy : s.busy = true) (hvalid : s.rspValid = true)
      (hready : (currentCycle s).rspReady = false) : PortEvent s (dropCycle s)
  | wait (hreset : (currentCycle s).reset = false) (hbusy : s.busy = true) (hvalid : s.rspValid = false)
      (hwait : (currentCycle s).wait = true) : PortEvent s (dropCycle s)
  | execute {t : State} (hreset : (currentCycle s).reset = false) (hbusy : s.busy = true)
      (hvalid : s.rspValid = false) (hwait : (currentCycle s).wait = false)
      (hexec : exec (decodeRequest s.req) (dropCycle s) = .next t) : PortEvent s t

theorem portEvent_of_step {s t : State} (h : step s = .next t) : PortEvent s t := by
  cases hreset : (currentCycle s).reset with
  | true =>
    cases (step_reset hreset).symm.trans h
    exact .reset hreset
  | false =>
    cases hbusy : s.busy with
    | false =>
      cases hreq : (currentCycle s).reqValid with
      | true =>
        cases (step_accept hreset hbusy hreq).symm.trans h
        exact .accept hreset hbusy hreq
      | false =>
        cases (step_idle hreset hbusy hreq).symm.trans h
        exact .idle hreset hbusy hreq
    | true =>
      cases hvalid : s.rspValid with
      | true =>
        cases hready : (currentCycle s).rspReady with
        | true =>
          cases (step_handOff hreset hbusy hvalid hready).symm.trans h
          exact .handOff hreset hbusy hvalid hready
        | false =>
          cases (step_hold hreset hbusy hvalid hready).symm.trans h
          exact .hold hreset hbusy hvalid hready
      | false =>
        cases hwait : (currentCycle s).wait with
        | true =>
          cases (step_wait hreset hbusy hvalid hwait).symm.trans h
          exact .wait hreset hbusy hvalid hwait
        | false =>
          exact .execute hreset hbusy hvalid hwait ((step_execute hreset hbusy hvalid hwait).symm.trans h)

/-! ### The engine after a computation (40_crc8_engine.md R103) -/

/-- As many steps as IDX counts, or more, end with IDX = 0. -/
theorem engineSteps_idx (n : Nat) (e : Engine) (h : e.idx.toNat ≤ n) : (engineSteps n e).idx = 0 := by
  induction n generalizing e with
  | zero => exact BitVec.eq_of_toNat_eq (Nat.le_zero.1 h)
  | succ n ih =>
    rw [engineSteps]
    split
    next h0 => exact h0
    next h0 =>
      apply ih
      change (e.idx - 1).toNat ≤ n
      bv_omega

@[simp] theorem compute_idx (v : BitVec 64) (w : BitVec 16) : (compute v w).idx = 0 :=
  engineSteps_idx _ _ le_rfl

@[simp] theorem computeChecksum_idx (pl : Payload) : (computeChecksum pl).idx = 0 := compute_idx _ _

/-! ### What a request does -/

/-- What holds of every shared operation the meanings are built of holds of every instruction's meaning. -/
theorem exec_induction {P : (State → Host.Outcome State Fault Refusal) → Prop}
    (raise : ∀ st, P (raiseError st))
    (read : ∀ d : Frame → BitVec 64, P fun s => respondData (d s.fr) s)
    (report : ∀ v, P (respondVariant v))
    (write : ∀ g : Frame → Frame, P fun s => writeFrame (g s.fr) s)
    (check : ∀ bound a, ∀ g : Frame → Frame, P fun s => writeChecked bound a (g s.fr) s)
    (crc : ∀ v w, P (execCrc8 v w)) (verify : P execDecVerify) (params : P execDecParams)
    (encode : ∀ k a v, P (encodeFrame k a v)) (i : Instr) : P (exec i) := by
  cases i with
  | frClear => exact write fun _ => 0
  | frLoad a => exact check (2 ^ 64) a fun _ => BitVec.ofNat 64 a
  | frSetAddr a => exact check 4 a fun f => setAddress f a
  | frSetCmd a => exact check 16 a fun f => setCommand f a
  | frSetParam a => exact write fun f => setParameter f a
  | frSetCsum a => exact check 256 a fun f => setChecksum f a
  | frGetAddr => exact read fun f => (frameAddress f).setWidth 64
  | frGetCmd => exact read fun f => (frameCommand f).setWidth 64
  | frGetParam => exact read fun f => (frameParameter f).setWidth 64
  | frGetCsum => exact read fun f => (frameChecksum f).setWidth 64
  | frGetPayload => exact read fun f => (framePayload f).setWidth 64
  | frGetRaw => exact read fun f => f
  | crc8 v w => exact crc v w
  | decVerify => exact verify
  | decParams => exact params
  | encMove | encReverse | encTurn | encStop | encInfo | encPing | encPong | encError | encPoll
  | encResponse | encCrane => exact encode _ _ _
  | frameMove | frameReverse | frameTurn | frameStop | frameInfo | framePing | framePong | frameError
  | framePoll | frameResponse | frameCrane => exact report _
  | reserved0F | reserved1B | reserved1C | reserved1D | reserved1E | reserved1F => exact raise .illegalOp
  | frameUnassignedB | frameUnassignedC | frameUnassignedD | frameUnassignedE | frameUnassignedF =>
    exact raise .unknownCommand

/-- What a request does: the FR it leaves, the engine it leaves if it runs one, and its response. -/
structure Effect where
  fr     : Frame
  engine : Option Engine
  rsp    : Response

/-- The state an effect leads to. -/
def Effect.on (x : Effect) (s : State) : State := answered s x.fr (x.engine.getD s.engine) x.rsp

/-- The effect of a request that writes no state. -/
def Effect.answer (f : Frame) (rsp : Response) : Effect := { fr := f, engine := none, rsp := rsp }

/-- The effect of a request that writes FR. -/
def Effect.write (f : Frame) : Effect := { fr := f, engine := none, rsp := dataResponse f }

/-- An effect on FR = f that the spec allows: an engine that ran is done (R103), the response is one of R85,
and an error writes no state (R224). -/
structure Effect.Legal (f : Frame) (x : Effect) : Prop where
  engine_idle : ∀ e ∈ x.engine, e.idx = 0
  response_legal : responseLegal x.rsp
  error_writes_nothing : x.rsp.status ≠ 0 → x = .answer f x.rsp

theorem Effect.legal_answer {f : Frame} {rsp : Response} (h : responseLegal rsp) : (answer f rsp).Legal f :=
  ⟨nofun, h, fun _ => rfl⟩

theorem Effect.legal_write (f g : Frame) : (write g).Legal f :=
  ⟨nofun, responseLegal_data g, fun h => absurd rfl h⟩

theorem Effect.legal_computed {f g : Frame} {e : Engine} (he : e.idx = 0) (d : BitVec 64) :
    Effect.Legal f { fr := g, engine := some e, rsp := dataResponse d } :=
  ⟨fun _ h => Option.some.inj h ▸ he, responseLegal_data d, fun h => absurd rfl h⟩

/-- A meaning that is answered in every state, with a legal effect that FR alone decides. -/
def HasEffectOfFr (m : State → Host.Outcome State Fault Refusal) : Prop :=
  ∀ f, ∃ x : Effect, x.Legal f ∧ ∀ s, s.fr = f → m s = .next (x.on s)

theorem respondVariant_hasEffectOfFr (v : Variant) : HasEffectOfFr (respondVariant v) := fun _ =>
  ⟨_, Effect.legal_answer (responseLegal_variant v), by rintro s rfl; rfl⟩

theorem raiseError_hasEffectOfFr (st : Status) : HasEffectOfFr (raiseError st) := fun _ =>
  ⟨_, Effect.legal_answer (responseLegal_error st), by rintro s rfl; rfl⟩

theorem writeFrame_hasEffectOfFr (g : Frame → Frame) : HasEffectOfFr fun s => writeFrame (g s.fr) s := fun f =>
  ⟨_, Effect.legal_write f (g f), by rintro s rfl; rfl⟩

theorem writeChecked_hasEffectOfFr (bound a : Nat) (g : Frame → Frame) :
    HasEffectOfFr fun s => writeChecked bound a (g s.fr) s := by
  unfold writeChecked
  split
  · exact raiseError_hasEffectOfFr .rangeError
  · exact writeFrame_hasEffectOfFr g

theorem encodeFrame_hasEffectOfFr (k : Cmd) (a : Nat) (v : Variant) : HasEffectOfFr (encodeFrame k a v) := by
  unfold encodeFrame
  split
  · exact raiseError_hasEffectOfFr .rangeError
  · exact fun f => ⟨_, Effect.legal_computed (computeChecksum_idx _) _, fun s _ => rfl⟩

theorem execDecParams_hasEffectOfFr : HasEffectOfFr execDecParams := by
  intro f
  cases h : unpackDispatch (frameCommand f) (frameParameter f) with
  | some v =>
    obtain ⟨x, hx, hs⟩ := respondVariant_hasEffectOfFr v f
    exact ⟨x, hx, fun s hf => by rw [execDecParams, hf, h]; exact hs s hf⟩
  | none =>
    obtain ⟨x, hx, hs⟩ := raiseError_hasEffectOfFr .unknownCommand f
    exact ⟨x, hx, fun s hf => by rw [execDecParams, hf, h]; exact hs s hf⟩

/-- Every instruction is answered, with an effect that is legal and that FR alone decides (R23, R26, R28). -/
theorem exec_hasEffectOfFr (i : Instr) : HasEffectOfFr (exec i) := by
  refine exec_induction raiseError_hasEffectOfFr (fun d f => ?read) respondVariant_hasEffectOfFr
    writeFrame_hasEffectOfFr writeChecked_hasEffectOfFr (fun v w f => ?crc) (fun f => ?verify)
    execDecParams_hasEffectOfFr encodeFrame_hasEffectOfFr i
  case read => exact ⟨_, Effect.legal_answer (responseLegal_data (d f)), by rintro s rfl; rfl⟩
  case crc => exact ⟨_, Effect.legal_computed (g := f) (compute_idx _ w) _, by rintro s rfl; rfl⟩
  case verify =>
    exact ⟨_, Effect.legal_computed (g := f) (computeChecksum_idx (framePayload f))
      (boolData ((computeChecksum (framePayload f)).crcReg == frameChecksum f)), by rintro s rfl; rfl⟩

/-- An answered instruction led to its effect. -/
theorem effect_of_exec {i : Instr} {s t : State} (h : exec i s = .next t) :
    ∃ x : Effect, x.Legal s.fr ∧ t = x.on s := by
  obtain ⟨x, hlegal, hx⟩ := exec_hasEffectOfFr i s.fr
  exact ⟨x, hlegal, Host.Outcome.next.inj (h.symm.trans (hx s rfl))⟩

/-! ### The invariant -/

theorem Inv.dropCycle {s : State} (h : Inv s) : Inv (dropCycle s) :=
  ⟨h.valid_busy, h.engine_idle, h.response_legal, h.taken_legal⟩

theorem Inv.resetCore {s : State} (h : Inv s) : Inv (resetCore s) :=
  ⟨nofun, rfl, nofun, h.taken_legal⟩

theorem Inv.rspValid_eq_false {s : State} (h : Inv s) (hbusy : s.busy = false) : s.rspValid = false := by
  cases hvalid : s.rspValid with
  | false => rfl
  | true => exact absurd (h.valid_busy hvalid) (by simp [hbusy])

theorem Inv.acceptRequest {s : State} (h : Inv s) (r : Request) : Inv (acceptRequest r s) :=
  ⟨fun _ => rfl, h.engine_idle, h.response_legal, h.taken_legal⟩

/-- Hand-off moves the standing response to the host's record. -/
theorem Inv.takeResponse {s : State} (h : Inv s) (hvalid : s.rspValid = true) : Inv (takeResponse s) := by
  refine ⟨nofun, h.engine_idle, nofun, fun r hr => ?_⟩
  rcases List.mem_append.1 hr with hr | hr
  · exact h.taken_legal r hr
  · exact List.mem_singleton.1 hr ▸ h.response_legal hvalid

/-- A legal effect on a busy core keeps the invariant. -/
theorem Inv.effect {s : State} (h : Inv s) (hbusy : s.busy = true) {f : Frame} {x : Effect} (hx : x.Legal f) :
    Inv (x.on s) := by
  refine ⟨fun _ => hbusy, ?_, fun _ => hx.response_legal, h.taken_legal⟩
  change (x.engine.getD s.engine).idx = 0
  cases he : x.engine with
  | none => exact h.engine_idle
  | some e => exact hx.engine_idle e he

/-! ### A frame as an instruction, and a placed request (44_decoder_ops.md R201, log 9, log 11) -/

/-- DEC_PARAMS does what the frame in FR does as an instruction (R201). -/
theorem exec_decodeFrame (s : State) : exec (decodeFrame s.fr) s = exec .decParams s := by
  change _ = execDecParams s
  rw [decodeFrame, execDecParams]
  generalize frameCommand s.fr = k
  rcases cmd_cases k with rfl | rfl | rfl | rfl | rfl | rfl | rfl | rfl | rfl | rfl | rfl | rfl | rfl |
    rfl | rfl | rfl
  all_goals rfl

/-- A request placed as accepted is executed by the next step. -/
theorem step_withAccepted (r : Request) (s : State) :
    step (withAccepted r s) = exec (decodeRequest r) (dropCycle (withAccepted r s)) :=
  step_execute rfl rfl rfl rfl

/-! ### The meanings of a family of op codes (30_encoding.md R81, R82) -/

theorem exec_decodeRequest_getter (r : Request) (h : 0x06 ≤ r.op.toNat ∧ r.op.toNat ≤ 0x0B) :
    ∃ d : State → BitVec 64, exec (decodeRequest r) = fun s => respondData (d s) s := by
  obtain ⟨op, a, b, c⟩ := r
  obtain rfl | rfl | rfl | rfl | rfl | rfl :
      op = 0x06 ∨ op = 0x07 ∨ op = 0x08 ∨ op = 0x09 ∨ op = 0x0A ∨ op = 0x0B := by
    dsimp only at h
    bv_omega
  all_goals exact ⟨_, rfl⟩

theorem exec_decodeRequest_encoder (r : Request) (h : 0x10 ≤ r.op.toNat ∧ r.op.toNat ≤ 0x1A) :
    ∃ k v, exec (decodeRequest r) = encodeFrame k r.a.toNat v := by
  obtain ⟨op, a, b, c⟩ := r
  obtain rfl | rfl | rfl | rfl | rfl | rfl | rfl | rfl | rfl | rfl | rfl :
      op = 0x10 ∨ op = 0x11 ∨ op = 0x12 ∨ op = 0x13 ∨ op = 0x14 ∨ op = 0x15 ∨ op = 0x16 ∨ op = 0x17 ∨
        op = 0x18 ∨ op = 0x19 ∨ op = 0x1A := by
    dsimp only at h
    bv_omega
  all_goals exact ⟨_, _, rfl⟩

theorem exec_decodeRequest_reserved (r : Request) (h : r.op = 0x0F ∨ 0x1B ≤ r.op.toNat) :
    exec (decodeRequest r) = raiseError .illegalOp := by
  obtain ⟨op, a, b, c⟩ := r
  obtain rfl | rfl | rfl | rfl | rfl | rfl :
      op = 0x0F ∨ op = 0x1B ∨ op = 0x1C ∨ op = 0x1D ∨ op = 0x1E ∨ op = 0x1F := by
    dsimp only at h
    bv_omega
  all_goals rfl

/-! ### Meanings that leave FR (10_state.md R21) -/

/-- A meaning that leaves FR. -/
def KeepsFr (m : State → Host.Outcome State Fault Refusal) : Prop := ∀ s t, m s = .next t → t.fr = s.fr

theorem raiseError_keepsFr (st : Status) : KeepsFr (raiseError st) := by
  rintro s _ ⟨⟩
  rfl

theorem respondData_keepsFr (d : State → BitVec 64) : KeepsFr fun s => respondData (d s) s := by
  rintro s _ ⟨⟩
  rfl

theorem execCrc8_keepsFr (v : Nat) (w : BitVec 16) : KeepsFr (execCrc8 v w) := by
  rintro s _ ⟨⟩
  rfl

theorem execDecVerify_keepsFr : KeepsFr execDecVerify := by
  rintro s _ ⟨⟩
  rfl

theorem execDecParams_keepsFr : KeepsFr execDecParams := by
  intro s t h
  rw [execDecParams] at h
  split at h <;> cases h <;> rfl

/-- The getters, CRC8, DEC_* and the reserved op codes leave FR. -/
theorem exec_decodeRequest_keepsFr (r : Request)
    (h : (0x06 ≤ r.op.toNat ∧ r.op.toNat ≤ 0x0F) ∨ 0x1B ≤ r.op.toNat) : KeepsFr (exec (decodeRequest r)) := by
  obtain hget | hcrc | hverify | hparams | hreserved :
      (0x06 ≤ r.op.toNat ∧ r.op.toNat ≤ 0x0B) ∨ r.op = 0x0C ∨ r.op = 0x0D ∨ r.op = 0x0E ∨
        (r.op = 0x0F ∨ 0x1B ≤ r.op.toNat) := by
    bv_omega
  · obtain ⟨d, hd⟩ := exec_decodeRequest_getter r hget
    exact hd ▸ respondData_keepsFr d
  · rw [decodeRequest_crc8 hcrc]
    exact execCrc8_keepsFr _ _
  · rw [decodeRequest_decVerify hverify]
    exact execDecVerify_keepsFr
  · rw [decodeRequest_decParams hparams]
    exact execDecParams_keepsFr
  · rw [exec_decodeRequest_reserved r hreserved]
    exact raiseError_keepsFr _

/-- An error leaves FR (60_exceptions.md R224). -/
theorem exec_error_keeps_fr {i : Instr} {s t : State} (h : exec i s = .next t) (herr : t.rsp.status ≠ 0) :
    t.fr = s.fr := by
  obtain ⟨x, hx, rfl⟩ := effect_of_exec h
  exact congrArg Effect.fr (hx.error_writes_nothing herr)

/-! ### Meanings that write one field of FR -/

theorem writeChecked_fr {bound a : Nat} {f : Frame} {s t : State} (h : writeChecked bound a f s = .next t) :
    t.fr = f ∨ t.fr = s.fr := by
  rw [writeChecked] at h
  split at h
  · exact .inr (raiseError_keepsFr _ s t h)
  · cases h
    exact .inl rfl

/-- A setter leaves the bits outside its field (00_scope.md R10). -/
theorem exec_setter_keeps_bits {r : Request} {s t : State} (h : exec (decodeRequest r) s = .next t) {i : Nat}
    (hi : i < 64)
    (hout : (r.op = 0x02 ∧ 2 ≤ i) ∨ (r.op = 0x03 ∧ (i < 2 ∨ 6 ≤ i)) ∨ (r.op = 0x04 ∧ (i < 6 ∨ 56 ≤ i)) ∨
      (r.op = 0x05 ∧ i < 56)) : t.fr.getLsbD i = s.fr.getLsbD i := by
  rcases hout with ⟨hop, hbit⟩ | ⟨hop, hbit⟩ | ⟨hop, hbit⟩ | ⟨hop, hbit⟩
  · rw [decodeRequest_frSetAddr hop] at h
    rcases writeChecked_fr h with hfr | hfr <;> rw [hfr]
    rw [setAddress_bit, if_neg (by omega)]
  · rw [decodeRequest_frSetCmd hop] at h
    rcases writeChecked_fr h with hfr | hfr <;> rw [hfr]
    rw [setCommand_bit _ _ _ hi, if_neg (by omega)]
  · rw [decodeRequest_frSetParam hop] at h
    cases h
    exact (setParameter_bit _ _ _ hi).trans (if_neg (by omega))
  · rw [decodeRequest_frSetCsum hop] at h
    rcases writeChecked_fr h with hfr | hfr <;> rw [hfr]
    rw [setChecksum_bit _ _ _ hi, if_neg (by omega)]

/-! ### Meanings that do not read FR -/

/-- A meaning whose response does not depend on FR, nor, unless it is an error, the FR it leaves. -/
def IgnoresFr (m : State → Host.Outcome State Fault Refusal) : Prop :=
  ∀ s f t u, m s = .next t → m { s with fr := f } = .next u →
    u.rsp = t.rsp ∧ (t.rsp.status = 0 → u.fr = t.fr)

theorem raiseError_ignoresFr {st : Status} (h : statusCode st ≠ 0) : IgnoresFr (raiseError st) := by
  rintro s f _ _ ⟨⟩ ⟨⟩
  exact ⟨rfl, fun h0 => absurd h0 h⟩

theorem writeFrame_ignoresFr (f : Frame) : IgnoresFr (writeFrame f) := by
  rintro s g _ _ ⟨⟩ ⟨⟩
  exact ⟨rfl, fun _ => rfl⟩

theorem writeChecked_ignoresFr (bound a : Nat) (f : Frame) : IgnoresFr (writeChecked bound a f) := by
  unfold writeChecked
  split
  · exact raiseError_ignoresFr (by decide)
  · exact writeFrame_ignoresFr f

theorem encodeFrame_ignoresFr (k : Cmd) (a : Nat) (v : Variant) : IgnoresFr (encodeFrame k a v) := by
  unfold encodeFrame
  split
  · exact raiseError_ignoresFr (by decide)
  · rintro s f _ _ ⟨⟩ ⟨⟩
    exact ⟨rfl, fun _ => rfl⟩

/-- FR_CLEAR, FR_LOAD, ENC_* and the reserved op codes do not read FR. -/
theorem exec_decodeRequest_ignoresFr (r : Request) (h : r.op.toNat ≤ 1 ∨ 0x0F ≤ r.op.toNat) :
    IgnoresFr (exec (decodeRequest r)) := by
  obtain hclear | hload | hencode | hreserved :
      r.op = 0x00 ∨ r.op = 0x01 ∨ (0x10 ≤ r.op.toNat ∧ r.op.toNat ≤ 0x1A) ∨
        (r.op = 0x0F ∨ 0x1B ≤ r.op.toNat) := by
    bv_omega
  · rw [decodeRequest_frClear hclear]
    exact writeFrame_ignoresFr 0
  · rw [decodeRequest_frLoad hload]
    exact writeChecked_ignoresFr _ _ _
  · obtain ⟨k, v, hexec⟩ := exec_decodeRequest_encoder r hencode
    exact hexec ▸ encodeFrame_ignoresFr k _ v
  · rw [exec_decodeRequest_reserved r hreserved]
    exact raiseError_ignoresFr (by decide)

/-- CRC8's answer does not depend on FR (R104). -/
theorem execCrc8_rsp_ignores_fr {v : Nat} {w : BitVec 16} {s t u : State} {f : Frame}
    (ht : execCrc8 v w s = .next t) (hu : execCrc8 v w { s with fr := f } = .next u) : u.rsp = t.rsp := by
  cases ht
  cases hu
  rfl

/-- A port cycle without reset in which no request executes leaves FR. -/
theorem step_keeps_fr {s t : State} (h : step s = .next t) (hreset : (currentCycle s).reset = false)
    (hno : s.busy = false ∨ s.rspValid = true ∨ (currentCycle s).wait = true) : t.fr = s.fr := by
  cases portEvent_of_step h with
  | reset htrue => simp [hreset] at htrue
  | accept | idle | handOff | hold | wait => rfl
  | execute _ hbusy hvalid hwait => simp [hbusy, hvalid, hwait] at hno

/-! ### Runs of several cycles -/

section Runs

variable {M : Host.Core}

theorem run_succ {s t : M.State} (h : M.step s = .next t) (n : Nat) : M.run (n + 1) s = M.run n t := by
  rw [Host.Core.run, h]

theorem run_add {m : Nat} {s t : M.State} (h : M.run m s = .next t) (n : Nat) :
    M.run (m + n) s = M.run n t := by
  induction m generalizing s with
  | zero =>
    cases h
    rw [Nat.zero_add]
  | succ m ih =>
    rw [Host.Core.run] at h
    split at h
    next s' hs => rw [Nat.add_right_comm, run_succ hs, ih h]
    next => exact nomatch h
    next => exact nomatch h

end Runs

theorem run_step {s t : State} (h : step s = .next t) (n : Nat) :
    Sys2Proof.core.run (n + 1) s = Sys2Proof.core.run n t :=
  run_succ (M := Sys2Proof.core) h n

/-- A stretch of cycles in which a step does nothing but read its cycle. -/
theorem run_quiet_cycles {s : State} {cs : List PortCycle} (rest : List PortCycle)
    (h : ∀ c ∈ cs, ∀ l, step { s with inputs := c :: l } = .next { s with inputs := l }) :
    Sys2Proof.core.run cs.length { s with inputs := cs ++ rest } = .next { s with inputs := rest } := by
  induction cs with
  | nil => rfl
  | cons c cs ih =>
    obtain ⟨hc, hcs⟩ := List.forall_mem_cons.1 h
    exact (run_step (hc _) _).trans (ih hcs)

theorem run_idle_cycles {s : State} (hbusy : s.busy = false) {cs : List PortCycle} (rest : List PortCycle)
    (hreset : ∀ c ∈ cs, c.reset = false) (hreq : ∀ c ∈ cs, c.reqValid = false) :
    Sys2Proof.core.run cs.length { s with inputs := cs ++ rest } = .next { s with inputs := rest } :=
  run_quiet_cycles rest fun c hc _ => step_idle (hreset c hc) hbusy (hreq c hc)

theorem run_wait_cycles {s : State} (hbusy : s.busy = true) (hvalid : s.rspValid = false)
    {cs : List PortCycle} (rest : List PortCycle) (hreset : ∀ c ∈ cs, c.reset = false)
    (hwait : ∀ c ∈ cs, c.wait = true) :
    Sys2Proof.core.run cs.length { s with inputs := cs ++ rest } = .next { s with inputs := rest } :=
  run_quiet_cycles rest fun c hc _ => step_wait (hreset c hc) hbusy hvalid (hwait c hc)

theorem run_hold_cycles {s : State} (hbusy : s.busy = true) (hvalid : s.rspValid = true)
    {cs : List PortCycle} (rest : List PortCycle) (hreset : ∀ c ∈ cs, c.reset = false)
    (hready : ∀ c ∈ cs, c.rspReady = false) :
    Sys2Proof.core.run cs.length { s with inputs := cs ++ rest } = .next { s with inputs := rest } :=
  run_quiet_cycles rest fun c hc _ => step_hold (hreset c hc) hbusy hvalid (hready c hc)

/-! ### A run and its requests (70_reset_and_hazards.md R260) -/

/-- The state at the end of one request's cycles: the request is latched, its effect is on the core, and the
host has the response. -/
def served (r : Request) (x : Effect) (rest : List PortCycle) (s : State) : State :=
  takeResponse { x.on (acceptRequest r s) with inputs := rest }

/-- The cycles of one request serve it, from any ready core. -/
theorem run_timedRequest {q : TimedRequest} (hq : q.ok) (rest : List PortCycle) {s : State}
    (hbusy : s.busy = false) (hvalid : s.rspValid = false) {x : Effect}
    (hx : ∀ u, u.fr = s.fr → exec (decodeRequest q.present.req) u = .next (x.on u)) :
    Sys2Proof.core.run q.cycles.length { s with inputs := q.cycles ++ rest } =
      .next (served q.present.req x rest s) := by
  obtain ⟨before, present, working, finish, holding, take⟩ := q
  obtain ⟨hreset, hbefore, hpresent, hworking, hfinish, hholding, htake⟩ := hq
  simp only [TimedRequest.cycles, List.append_assoc, List.cons_append, List.forall_mem_append,
    List.forall_mem_cons] at hreset
  obtain ⟨rbefore, rpresent, rworking, rfinish, rholding, rtake, -⟩ := hreset
  calc
    _ = Sys2Proof.core.run (before.length + (working.length + (holding.length + 1 + 1) + 1))
          { s with inputs := before ++ present :: (working ++ finish :: (holding ++ take :: rest)) } := by
      simp [TimedRequest.cycles]
    _ = Sys2Proof.core.run (working.length + (holding.length + 1 + 1) + 1)
          { s with inputs := present :: (working ++ finish :: (holding ++ take :: rest)) } :=
      run_add (run_idle_cycles hbusy _ rbefore hbefore) _
    _ = Sys2Proof.core.run (working.length + (holding.length + 1 + 1))
          { acceptRequest present.req s with inputs := working ++ finish :: (holding ++ take :: rest) } :=
      run_step (step_accept (s := { s with inputs := present :: _ }) rpresent hbusy hpresent) _
    _ = Sys2Proof.core.run (holding.length + 1 + 1)
          { acceptRequest present.req s with inputs := finish :: (holding ++ take :: rest) } :=
      run_add (run_wait_cycles (s := acceptRequest present.req s) rfl hvalid _ rworking hworking) _
    _ = Sys2Proof.core.run (holding.length + 1)
          { x.on (acceptRequest present.req s) with inputs := holding ++ take :: rest } :=
      run_step
        ((step_execute (s := { acceptRequest present.req s with inputs := finish :: _ })
          rfinish rfl hvalid hfinish).trans (hx _ rfl)) _
    _ = Sys2Proof.core.run 1 { x.on (acceptRequest present.req s) with inputs := take :: rest } :=
      run_add (run_hold_cycles (s := x.on (acceptRequest present.req s)) rfl rfl _ rholding hholding) _
    _ = _ :=
      run_step
        (step_handOff (s := { x.on (acceptRequest present.req s) with inputs := take :: _ })
          rtake rfl rfl htake) 0

theorem serveAll_cons {r : Request} {rs : List Request} {s t : State} {responses : List Response} {f : Frame}
    (h : exec (decodeRequest r) s = .next t) (hrs : serveAll rs t = some (responses, f)) :
    serveAll (r :: rs) s = some (t.rsp :: responses, f) := by
  simp [serveAll, h, hrs]

/-- A run shows what its requests show one after another, from any state with the same FR. -/
theorem run_shows_serveAll (l : List TimedRequest) (hl : ∀ q ∈ l, q.ok) (s v : State) (hfr : v.fr = s.fr)
    (hbusy : s.busy = false) (hvalid : s.rspValid = false) (hin : s.inputs = l.flatMap TimedRequest.cycles) :
    ∃ t responses f, Sys2Proof.core.run s.inputs.length s = .next t ∧
      serveAll (l.map fun q => q.present.req) v = some (responses, f) ∧
      t.taken = s.taken ++ responses ∧ t.fr = f ∧ t.busy = false := by
  induction l generalizing s v with
  | nil =>
    rw [hin]
    exact ⟨s, [], v.fr, rfl, rfl, (List.append_nil _).symm, hfr.symm, hbusy⟩
  | cons q l ih =>
    obtain ⟨hq, hl⟩ := List.forall_mem_cons.1 hl
    obtain ⟨x, -, hx⟩ := exec_hasEffectOfFr (decodeRequest q.present.req) s.fr
    obtain ⟨t, responses, f, hrun, hserve, htaken, hf, hbusy'⟩ :=
      ih hl (served q.present.req x (l.flatMap TimedRequest.cycles) s) (x.on v) rfl rfl rfl rfl
    refine ⟨t, x.rsp :: responses, f, ?run, ?serve, ?taken, hf, hbusy'⟩
    case run =>
      have h := run_timedRequest hq (l.flatMap TimedRequest.cycles) hbusy hvalid hx
      rw [← List.flatMap_cons, ← hin] at h
      rw [hin, List.flatMap_cons, List.length_append]
      exact (run_add h _).trans hrun
    case serve => exact serveAll_cons (hx v hfr) hserve
    case taken => rw [htaken]; exact List.append_assoc _ _ _

end Sys2Proof.Machine
end

section
/-! PROOFS. The statements about the state and the port (10_state.md). -/

namespace Sys2Proof.Proofs

open Sys2Proof.Machine

/-- Settles O55, by the event of the port cycle: the cycle's reading, acceptance, hand-off and reset keep the
invariant, and so does the legal effect that every instruction has. -/
theorem stepKeepsTheInvariant : Obligations.StepKeepsTheInvariant := by
  intro s t h hstep
  cases portEvent_of_step hstep with
  | reset => exact h.dropCycle.resetCore
  | accept => exact h.dropCycle.acceptRequest _
  | idle | hold | wait => exact h.dropCycle
  | handOff _ _ hvalid => exact h.dropCycle.takeResponse hvalid
  | execute _ hbusy _ _ hexec =>
    obtain ⟨x, hx, rfl⟩ := effect_of_exec hexec
    exact h.dropCycle.effect hbusy hx

/-- Settles O45: both answers are the one effect that FR decides. -/
theorem answerDependsOnlyOnFr : Obligations.AnswerDependsOnlyOnFr := by
  intro i s s' t t' hfr h h'
  obtain ⟨x, -, hx⟩ := exec_hasEffectOfFr i s.fr
  cases h.symm.trans (hx s rfl)
  cases h'.symm.trans (hx s' hfr.symm)
  exact ⟨rfl, rfl⟩

/-- Settles O47: with BUSY = 0 the step is the acceptance or an idle cycle, and no event of a busy core writes
the latch. -/
theorem requestIsAcceptedWhenReady : Obligations.RequestIsAcceptedWhenReady := by
  intro s t hreset hstep
  refine ⟨fun hbusy hreq => ?accepted, fun hbusy hreq => ?idle, fun hbusy => ?busy⟩
  case accepted => exact Host.Outcome.next.inj (hstep.symm.trans (step_accept hreset hbusy hreq))
  case idle => exact Host.Outcome.next.inj (hstep.symm.trans (step_idle hreset hbusy hreq))
  case busy =>
    cases portEvent_of_step hstep with
    | reset htrue => simp [hreset] at htrue
    | accept _ hfree | idle _ hfree => simp [hbusy] at hfree
    | handOff | hold | wait => rfl
    | execute _ _ _ _ hexec =>
      obtain ⟨x, -, rfl⟩ := effect_of_exec hexec
      rfl

/-- Settles O48: the step holds the response or hands it off. -/
theorem responseIsHeldUntilTaken : Obligations.ResponseIsHeldUntilTaken := by
  intro s hreset hbusy hvalid
  refine ⟨step_hold hreset hbusy hvalid, fun hready => ?_⟩
  exact ⟨_, step_handOff hreset hbusy hvalid hready, rfl, rfl, rfl, rfl, rfl, rfl⟩

/-- Settles O44, by the meanings of each family of op codes: those that leave FR, those that write a field of
it, those that do not read it. -/
theorem frHasExactlyItsWritersAndReaders : Obligations.FrHasExactlyItsWritersAndReaders := by
  refine ⟨fun r s t h => ⟨?keep, exec_error_keeps_fr h, fun i hi => exec_setter_keeps_bits h hi, ?ignore⟩,
    fun s t => step_keeps_fr⟩
  case keep => exact fun hop => exec_decodeRequest_keepsFr r hop s t h
  case ignore =>
    intro hop f u hu
    obtain hcrc | hop' : r.op = 0x0C ∨ (r.op.toNat ≤ 1 ∨ 0x0F ≤ r.op.toNat) := by
      tauto
    · rw [decodeRequest_crc8 hcrc] at h hu
      exact ⟨execCrc8_rsp_ignores_fr h hu, fun _ hne => absurd hcrc hne⟩
    · obtain ⟨hrsp, hfr⟩ := exec_decodeRequest_ignoresFr r hop' s f t u h hu
      exact ⟨hrsp, fun hok _ => hfr hok⟩

/-- Settles O7: the decoder gives back the instruction of the latched word, and DEC_PARAMS does what the frame
in FR does. -/
theorem stepRunsTheDecodedInstruction : Obligations.StepRunsTheDecodedInstruction := by
  intro s i hbusy hvalid hreset hwait hwf
  have hdecode := decode_encode i hwf
  rw [step_execute hreset hbusy hvalid hwait]
  constructor
  · intro hword
    rw [hword, decode, unpackRequest_packRequest] at hdecode
    rw [hdecode]
  · intro hframe hop
    rw [hframe, decode] at hdecode
    rw [decodeRequest_decParams hop, ← hdecode]
    exact (exec_decodeFrame (dropCycle s)).symm

/-- Settles O8: a request word stands latched, a frame word in FR with DEC_PARAMS latched. -/
theorem placedWordRunsNext : Obligations.PlacedWordRunsNext := by
  intro s nbits w i h
  rw [decodeTableWord] at h
  rw [State.withFetchWord]
  split at h
  next c hread =>
    cases h
    rw [hread]
    cases c with
    | req v => exact step_withAccepted _ _
    | frame f =>
      exact (step_withAccepted _ _).trans
        (exec_decodeFrame (dropCycle (withAccepted decParamsRequest { s with fr := f }))).symm
  next => exact nomatch h

/-- Settles O51, by induction on the requests: the cycles of each take a ready core to a ready core, with the
effect that the request has on its own. -/
theorem runShowsItsRequestsInOrder : Obligations.RunShowsItsRequestsInOrder :=
  fun l s h hbusy hok hin => run_shows_serveAll l hok s s rfl hbusy (h.rspValid_eq_false hbusy) hin

end Sys2Proof.Proofs
end

section
/-! SUPPORT. Requests made twice (20_memory.md R43), and a frame cut into bytes and joined again (R44). -/

namespace Sys2Proof.Machine

/-! ### A request made twice (20_memory.md R43) -/

/-- A meaning that changes nothing more when it is run again on what it left. -/
def Idempotent (m : State → Host.Outcome State Fault Refusal) : Prop := ∀ s t, m s = .next t → m t = .next t

@[simp] theorem Effect.on_on (x : Effect) (s : State) : x.on (x.on s) = x.on s := by
  cases h : x.engine <;> simp [Effect.on, answered, h]

/-- A meaning that leaves FR and whose effect FR alone decides has the same effect again. -/
theorem HasEffectOfFr.idempotent {m : State → Host.Outcome State Fault Refusal} (hm : HasEffectOfFr m)
    (hkeep : KeepsFr m) : Idempotent m := by
  intro s t h
  obtain ⟨x, -, hx⟩ := hm s.fr
  obtain rfl : t = x.on s := Host.Outcome.next.inj (h.symm.trans (hx s rfl))
  have hagain := hx (x.on s) (hkeep s _ h)
  rwa [Effect.on_on] at hagain

theorem raiseError_idempotent (st : Status) : Idempotent (raiseError st) :=
  (raiseError_hasEffectOfFr st).idempotent (raiseError_keepsFr st)

theorem respondVariant_keepsFr (v : Variant) : KeepsFr (respondVariant v) := by
  rintro s _ ⟨⟩
  rfl

theorem writeFrame_idempotent (g : Frame → Frame) (hg : ∀ f, g (g f) = g f) :
    Idempotent fun s => writeFrame (g s.fr) s := by
  intro s t h
  cases (writeFrame_eq _ s).symm.trans h
  change writeFrame (g (g s.fr)) _ = _
  rw [hg, writeFrame_eq]
  rfl

theorem writeChecked_idempotent (bound a : Nat) (g : Frame → Frame) (hg : ∀ f, g (g f) = g f) :
    Idempotent fun s => writeChecked bound a (g s.fr) s := by
  unfold writeChecked
  split
  · exact raiseError_idempotent .rangeError
  · exact writeFrame_idempotent g hg

/-- The frame and the engine's computation come from the operands alone (43_encoder_ops.md R180). -/
theorem encodeFrame_idempotent (k : Cmd) (a : Nat) (v : Variant) : Idempotent (encodeFrame k a v) := by
  unfold encodeFrame
  split
  · exact raiseError_idempotent .rangeError
  · rintro s _ ⟨⟩
    rfl

@[simp] theorem setAddress_setAddress (f : Frame) (a : Nat) : setAddress (setAddress f a) a = setAddress f a := by
  simp [setAddress]

@[simp] theorem setCommand_setCommand (f : Frame) (a : Nat) : setCommand (setCommand f a) a = setCommand f a := by
  simp [setCommand]

@[simp] theorem setParameter_setParameter (f : Frame) (a : Nat) :
    setParameter (setParameter f a) a = setParameter f a := by
  simp [setParameter]

@[simp] theorem setChecksum_setChecksum (f : Frame) (a : Nat) :
    setChecksum (setChecksum f a) a = setChecksum f a := by
  simp [setChecksum]

/-- Of the instructions, those that leave FR have the same effect again, and those that write FR write the same
frame again. -/
theorem exec_idempotent (i : Instr) : Idempotent (exec i) := by
  have keeper (hkeep : KeepsFr (exec i)) : Idempotent (exec i) := (exec_hasEffectOfFr i).idempotent hkeep
  cases i with
  | frClear => exact writeFrame_idempotent (fun _ => 0) fun _ => rfl
  | frLoad a => exact writeChecked_idempotent _ a (fun _ => BitVec.ofNat 64 a) fun _ => rfl
  | frSetAddr a => exact writeChecked_idempotent _ a (setAddress · a) (setAddress_setAddress · a)
  | frSetCmd a => exact writeChecked_idempotent _ a (setCommand · a) (setCommand_setCommand · a)
  | frSetParam a => exact writeFrame_idempotent (setParameter · a) (setParameter_setParameter · a)
  | frSetCsum a => exact writeChecked_idempotent _ a (setChecksum · a) (setChecksum_setChecksum · a)
  | encMove | encReverse | encTurn | encStop | encInfo | encPing | encPong | encError | encPoll
  | encResponse | encCrane => exact encodeFrame_idempotent _ _ _
  | frGetAddr | frGetCmd | frGetParam | frGetCsum | frGetPayload | frGetRaw =>
    exact keeper (respondData_keepsFr _)
  | crc8 v w => exact keeper (execCrc8_keepsFr v w)
  | decVerify => exact keeper execDecVerify_keepsFr
  | decParams => exact keeper execDecParams_keepsFr
  | frameMove | frameReverse | frameTurn | frameStop | frameInfo | framePing | framePong | frameError
  | framePoll | frameResponse | frameCrane => exact keeper (respondVariant_keepsFr _)
  | reserved0F | reserved1B | reserved1C | reserved1D | reserved1E | reserved1F
  | frameUnassignedB | frameUnassignedC | frameUnassignedD | frameUnassignedE | frameUnassignedF =>
    exact keeper (raiseError_keepsFr _)

/-! ### A frame on the wire (20_memory.md R44) -/

/-- One byte, put back in its place, gives the frame's bits there and no other. -/
theorem frameByte_placed_bit (f : Frame) (k i : Nat) (hi : i < 64) :
    ((frameByte f k).setWidth 64 <<< (8 * k)).getLsbD i = (decide (i / 8 = k) && f.getLsbD i) := by
  rw [BitVec.getLsbD_shiftLeft, BitVec.getLsbD_setWidth, frameByte, extract_bit]
  by_cases hk : i / 8 = k
  · have hlo : ¬ i < 8 * k := by omega
    have hbyte : i - 8 * k < 8 := by omega
    have h64 : i - 8 * k < 64 := by omega
    have hbit : 8 * k + (i - 8 * k) = i := by omega
    simp [hi, hk, hlo, hbyte, h64, hbit]
  · have hout : i < 8 * k ∨ ¬ i - 8 * k < 8 := by omega
    rcases hout with hout | hout <;> simp [hk, hout]

/-- The bytes that were sent give back their bits of the frame, and the others are 0. -/
theorem fromWire_toWire_bit (order : WireByteOrder) (f : Frame) (i : Nat) (hi : i < 64) :
    (fromWire order (toWire order f)).getLsbD i = (decide (i / 8 ∈ order) && f.getLsbD i) := by
  induction order with
  | nil => simp [fromWire]
  | cons k ks ih =>
    have hcons : fromWire (k :: ks) (toWire (k :: ks) f) =
        (frameByte f k).setWidth 64 <<< (8 * k) ||| fromWire ks (toWire ks f) := rfl
    rw [hcons, BitVec.getLsbD_or, frameByte_placed_bit f k i hi, ih, ← Bool.and_or_distrib_right]
    simp

end Sys2Proof.Machine
end

section
/-! PROOFS. The statements about repetition and byte order (20_memory.md). -/

namespace Sys2Proof.Proofs

open Sys2Proof.Machine

/-- Settles O46: an instruction that leaves FR answers from the same FR again, and one that writes FR writes the
same frame again. -/
theorem repeatedRequestChangesNothing : Obligations.RepeatedRequestChangesNothing := exec_idempotent

/-- Settles O59, bit by bit: bit i travels in byte i / 8, and a permutation of the eight bytes sends them all. -/
theorem frameCrossesTheWireWhole : Obligations.FrameCrossesTheWireWhole := by
  intro order f horder
  apply BitVec.eq_of_getLsbD_eq
  intro i hi
  have hsent : i / 8 ∈ order := horder.mem_iff.2 (List.mem_range.2 (by omega))
  simp [fromWire_toWire_bit order f i hi, hsent]

end Sys2Proof.Proofs
end

section
/-! SUPPORT. Words decoded and encoded again, the rows of the opcode table, the value the CRC engine computes,
and the assembler's lines. -/

namespace Sys2Proof

/-! ### Encoding what the decoder read (30_encoding.md R60, R66, R81) -/

/-- A frame's word, from its command code and its other fields. -/
theorem frameCode_fields {f : Frame} {k : Cmd} (h : frameCommand f = k) :
    frameCode k (frameAddress f) (frameParameter f) (frameChecksum f) = .frame f := by
  rw [frameCode, ← h, mkFrame_fields]

/-- No bit of a frame is lost by decoding it. -/
theorem encode_decodeFrame (f : Frame) : encode (decodeFrame f) = .frame f := by
  rcases cmd_cases (frameCommand f) with h | h | h | h | h | h | h | h | h | h | h | h | h | h | h | h
  all_goals
    rw [decodeFrame, h]
    exact frameCode_fields h

/-- A decoded request keeps its op code. -/
theorem encode_decodeRequest (r : Request) :
    ∃ a b c, encode (decodeRequest r) = requestCode r.op a b c := by
  obtain ⟨⟨op⟩, a, b, c⟩ := r
  fin_cases op
  all_goals exact ⟨_, _, _, rfl⟩

/-! ### The decoder's operands are well formed (30_encoding.md R83, R84) -/

theorem wf_decodeRequest (r : Request) : (decodeRequest r).wf = true := by
  rw [decodeRequest]
  split <;> simp [Instr.wf, operandA_fits, operandBSigned_fits]

theorem wf_decodeFrame (f : Frame) : (decodeFrame f).wf = true := by
  rw [decodeFrame]
  split <;> rfl

/-! ### The instruction of an op code (30_encoding.md R81) -/

theorem decodeRequest_frGetPayload {r : Request} (h : r.op = 0x0A) : decodeRequest r = .frGetPayload := by
  simp [decodeRequest, h]

/-! ### Operand bits that are not read (30_encoding.md R84) -/

/-- B[7:0] is B modulo 256. -/
theorem lowByte_congr {b b' : BitVec 16} (h : b.toNat % 256 = b'.toNat % 256) :
    b.extractLsb' 0 8 = b'.extractLsb' 0 8 := by
  apply BitVec.eq_of_toNat_eq
  simpa using h

/-! ### The rows of the opcode table (30_encoding.md R66, R81) -/

/-- The format of a code. -/
def codeFormat : Code → RowFormat
  | .req _ => .req
  | .frame _ => .frame

/-- The bits of a code as the table numbers them. -/
def codeBits : Code → Nat
  | .req w => w.toNat
  | .frame f => f.toNat

/-- The mask of a format's rows. -/
def formatMask : RowFormat → Nat
  | .req => 0x1F
  | .frame => 0x3C

theorem rowMatches_iff (row : OpcodeRow) (c : Code) :
    rowMatches row c = true ↔ row.format = codeFormat c ∧ codeBits c &&& row.mask = row.pattern := by
  cases c <;> simp [rowMatches, codeFormat, codeBits]

theorem mask_of_mem_opcodeTable : ∀ row ∈ opcodeTable, row.mask = formatMask row.format := by
  decide

/-- No two rows of the table have both their format and their pattern in common. -/
theorem opcodeTable_keys_nodup : (opcodeTable.map fun row => (row.format, row.pattern)).Nodup := by
  decide

/-- A code fits at most one row of the table. -/
theorem row_unique {c : Code} {row row' : OpcodeRow} (hrow : row ∈ opcodeTable) (hrow' : row' ∈ opcodeTable)
    (h : rowMatches row c = true) (h' : rowMatches row' c = true) : row = row' := by
  obtain ⟨hformat, hpattern⟩ := (rowMatches_iff row c).1 h
  obtain ⟨hformat', hpattern'⟩ := (rowMatches_iff row' c).1 h'
  rw [mask_of_mem_opcodeTable row hrow, hformat] at hpattern
  rw [mask_of_mem_opcodeTable row' hrow', hformat'] at hpattern'
  exact List.inj_on_of_nodup_map opcodeTable_keys_nodup hrow hrow'
    (Prod.ext (hformat.trans hformat'.symm) (hpattern.symm.trans hpattern'))

theorem instrRow_mem_opcodeTable (i : Instr) : instrRow i ∈ opcodeTable := by
  cases i <;> simp [instrRow, opcodeTable, requestRows, frameRows]

/-- Every instruction's word fits the instruction's own row. -/
theorem rowMatches_encode (i : Instr) : rowMatches (instrRow i) (encode i) = true := by
  cases i with
  | frClear | frLoad | frSetAddr | frSetCmd | frSetParam | frSetCsum | frGetAddr | frGetCmd | frGetParam
  | frGetCsum | frGetPayload | frGetRaw | crc8 | decVerify | decParams | reserved0F
  | encMove | encReverse | encTurn | encStop | encInfo | encPing | encPong | encError | encPoll
  | encResponse | encCrane | reserved1B | reserved1C | reserved1D | reserved1E | reserved1F =>
    exact Laws.RowMatch.request _ _ _ rfl _ _ _
  | frameMove | frameReverse | frameTurn | frameStop | frameInfo | framePing | framePong | frameError
  | framePoll | frameResponse | frameCrane | frameUnassignedB | frameUnassignedC | frameUnassignedD
  | frameUnassignedE | frameUnassignedF =>
    exact Laws.RowMatch.frame _ _ _ rfl _ _ _

theorem mask_instrRow (i : Instr) : (instrRow i).mask = formatMask (instrRow i).format :=
  mask_of_mem_opcodeTable _ (instrRow_mem_opcodeTable i)

/-- OP stands in the bits under a request row's mask (R80). -/
theorem reqWord_masked (w : ReqWord) : w.toNat &&& 0x1F = (unpackRequest w).op.toNat := by
  rw [show (0x1F : Nat) = 2 ^ 5 - 1 from rfl, Nat.and_two_pow_sub_one_eq_mod]
  simp [unpackRequest]

/-- Decoding and encoding keeps the bits of a code that the table's rows look at. -/
theorem encode_decode_masked (c : Code) :
    codeFormat (encode (decode c)) = codeFormat c ∧
      codeBits (encode (decode c)) &&& formatMask (codeFormat c) = codeBits c &&& formatMask (codeFormat c) := by
  cases c with
  | req w =>
    obtain ⟨a, b, c, h⟩ := encode_decodeRequest (unpackRequest w)
    rw [decode, h]
    exact ⟨rfl, (Laws.RowMatch.packed_low _).trans (reqWord_masked w).symm⟩
  | frame f =>
    rw [decode, encode_decodeFrame]
    exact ⟨rfl, rfl⟩

/-- A code fits the row of the instruction it decodes to. -/
theorem rowMatches_decode (c : Code) : rowMatches (instrRow (decode c)) c = true := by
  obtain ⟨hformat, hbits⟩ := encode_decode_masked c
  obtain ⟨hrow, hpattern⟩ := (rowMatches_iff _ _).1 (rowMatches_encode (decode c))
  rw [hformat] at hrow
  rw [mask_instrRow, hrow, hbits] at hpattern
  rw [rowMatches_iff, mask_instrRow, hrow]
  exact ⟨rfl, hpattern⟩

end Sys2Proof

namespace Sys2Proof.Machine

/-! ### The value the engine computes (40_crc8_engine.md R103, R106) -/

/-- As many steps as IDX counts take SRC's low bits through the CRC register, the top one first. -/
theorem engineSteps_eq_crcBits (n : Nat) (e : Engine) (h : e.idx.toNat = n) :
    engineSteps n e = { crcReg := crcBits e.src.toNat n e.crcReg, src := e.src, idx := 0 } := by
  induction n generalizing e with
  | zero =>
    have hidx : e.idx = 0 := BitVec.eq_of_toNat_eq h
    rw [engineSteps, crcBits, ← hidx]
  | succ n ih =>
    have hne : e.idx ≠ 0 := fun h0 => by simp [h0] at h
    have hnext : (engineStep e).idx.toNat = n := by
      change (e.idx - 1).toNat = n
      bv_omega
    rw [engineSteps, if_neg hne, ih _ hnext, crcBits, BitVec.testBit_toNat]
    simp [engineStep, h]

theorem compute_eq_engineDone (v : BitVec 64) (w : BitVec 16) : compute v w = engineDone v w.toNat :=
  engineSteps_eq_crcBits w.toNat (engineStart v w) rfl

/-- The checksum's computation ends with the payload's checksum (R106). -/
theorem computeChecksum_crcReg (pl : Payload) : (computeChecksum pl).crcReg = crc8 pl.toNat 56 := by
  rw [computeChecksum, compute_eq_engineDone, engineDone, BitVec.toNat_setWidth_of_le (by decide)]
  rfl

/-! ### STAMP (30_encoding.md R91) -/

theorem serveRequests_cons {r : BitVec 64 → Request} {rs : List (BitVec 64 → Request)} {d0 : BitVec 64}
    {i : Instr} {s t : State} (hi : decodeRequest (r d0) = i) (h : exec i s = .next t) :
    serveRequests (r :: rs) d0 s = serveRequests rs t.rsp.d0 t := by
  rw [serveRequests, hi, h]

@[simp] theorem framePayload_setChecksum (f : Frame) (a : Nat) :
    framePayload (setChecksum f a) = framePayload f := by
  rw [setChecksum, framePayload_mkFrame, mkPayload_fields]

@[simp] theorem frameChecksum_setChecksum (f : Frame) (a : Nat) :
    frameChecksum (setChecksum f a) = BitVec.ofNat 8 a := by
  rw [setChecksum, frameChecksum_mkFrame]

/-- A frame that takes its payload's checksum is valid (R62). -/
theorem frameValid_setChecksum (f : Frame) :
    frameValid (setChecksum f (crc8 (framePayload f).toNat 56).toNat) := by
  rw [frameValid, frameChecksum_setChecksum, framePayload_setChecksum, BitVec.ofNat_toNat,
    BitVec.setWidth_eq]

theorem exec_frGetPayload (s : State) :
    exec .frGetPayload s = .next (answeredOnly s (dataResponse ((framePayload s.fr).setWidth 64))) := rfl

/-- CRC8 of a payload with width 56 answers its checksum. -/
theorem exec_crc8_payload (pl : Payload) (s : State) :
    exec (.crc8 (pl.setWidth 64).toNat 56) s =
      .next (answered s s.fr (computeChecksum pl) (dataResponse ((crc8 pl.toNat 56).setWidth 64))) := by
  rw [← computeChecksum_crcReg]
  refine (crc8_eq _ _ s).trans ?_
  rw [BitVec.ofNat_toNat, BitVec.setWidth_eq, computeChecksum]

/-- A byte always fits the checksum field (41_frame_ops.md R125). -/
theorem exec_frSetCsum_byte (x : Csum) (s : State) :
    exec (.frSetCsum (x.setWidth 64).toNat) s =
      .next (answered s (setChecksum s.fr x.toNat) s.engine (dataResponse (setChecksum s.fr x.toNat))) := by
  rw [BitVec.toNat_setWidth_of_le (by decide)]
  exact writeChecked_lt x.isLt _ s

/-- STAMP's three requests write the payload's checksum into FR, and nothing else of FR. -/
theorem serveRequests_stamp (s : State) (d : BitVec 64) :
    ∃ l, assemble .stamp = some l ∧
      serveRequests l d s =
        let pl := framePayload s.fr
        let f := setChecksum s.fr (crc8 pl.toNat 56).toNat
        .next (answered s f (computeChecksum pl) (dataResponse f)) := by
  refine ⟨_, rfl, ?_⟩
  refine Eq.trans (serveRequests_cons (decodeRequest_frGetPayload rfl) (exec_frGetPayload s)) ?_
  refine Eq.trans (serveRequests_cons (decodeRequest_crc8 rfl) (exec_crc8_payload (framePayload s.fr) _)) ?_
  exact serveRequests_cons (decodeRequest_frSetCsum rfl)
    (exec_frSetCsum_byte (crc8 (framePayload s.fr).toNat 56) _)

/-! ### Request lines (00_scope.md R11, 30_encoding.md R91) -/

/-- Operand B of any op code, as a pattern. -/
theorem assembleB_fits {op : BitVec 5} {n : Int} (h0 : (if op = 0x12 then -32768 else 0) ≤ n) (h : n < 65536) :
    ∃ x, assembleB op n = some x ∧ (x.toNat : Int) = n % 65536 := by
  unfold assembleB
  split at h0
  next hop =>
    rw [if_pos hop]
    exact assembleS16_fits h0 h
  next hop =>
    rw [if_neg hop, Int.emod_eq_of_lt h0 h]
    exact assembleU16_fits h0 h

/-- A request line whose values fit their fields is one request, with these values. -/
theorem assemble_request {op : BitVec 5} {a b c : AsmOperand} {xa : BitVec 64} {xb xc : BitVec 16}
    (ha : assembleA (operandValue a) = some xa) (hb : assembleB op (operandValue b) = some xb)
    (hc : assembleU16 (operandValue c) = some xc) :
    assemble (.request op a b c) = some [fun _ => { op := op, a := xa, b := xb, c := xc }] := by
  rw [assemble, assembleRequest, ha, hb, hc]
  rfl

theorem encodeOp_of_le {k : Int} (h0 : 0 ≤ k) (h : k ≤ 10) :
    encodeOp k = some (BitVec.ofNat 5 (16 + k.toNat)) := by
  obtain ⟨n, rfl⟩ := Int.eq_ofNat_of_zero_le h0
  rw [encodeOp, if_pos ⟨h0, h⟩]
  exact congrArg some (BitVec.ofInt_natCast 5 (16 + n))

theorem encodeOp_of_outside {k : Int} (h : k < 0 ∨ 10 < k) : encodeOp k = none := by
  rw [encodeOp, if_neg (by omega)]

end Sys2Proof.Machine
end

section
/-! PROOFS. The statements about the encodings, the assembler's lines, and that every instruction is answered
(30_encoding.md, 60_exceptions.md). -/

namespace Sys2Proof.Proofs

open Sys2Proof.Machine

/-- Settles O1: each constructor's word carries its op code or command code and its operands. -/
theorem decodeAfterEncode : Obligations.DecodeAfterEncode := decode_encode

/-- Settles O2, by the sixteen command codes: each frame row keeps the three other fields. -/
theorem encodeAfterDecodeFrame : Obligations.EncodeAfterDecodeFrame := encode_decodeFrame

/-- Settles O3: a latched A has 64 bits and a latched B read as signed is an s16; a frame's fields have their
widths by type. -/
theorem decodedInstructionIsWellFormed : Obligations.DecodedInstructionIsWellFormed := by
  intro c
  cases c with
  | req w => exact wf_decodeRequest (unpackRequest w)
  | frame f => exact wf_decodeFrame f

/-- Settles O4: the word of the decoded instruction has the code's masked bits, and rows of one format and one
pattern are one row. -/
theorem decodePicksTheOneTableRow : Obligations.DecodePicksTheOneTableRow := by
  intro c row
  have hmem := instrRow_mem_opcodeTable (decode c)
  have hmatches := rowMatches_decode c
  exact ⟨hmem, hmatches, fun hrow h => row_unique hrow hmem h hmatches⟩

/-- Settles O5, op code by op code in each of the five lists. -/
theorem unreadOperandBitsAreIgnored : Obligations.UnreadOperandBitsAreIgnored := by
  rintro ⟨op, ra, rb, rc⟩ a b c
  simp only [List.mem_cons, List.not_mem_nil, or_false]
  refine ⟨fun hop => ?none, fun hop => ?onlyA, fun hop => ?onlyAB, fun hop hb => ?byte,
    fun hop hb => ?response⟩
  case none =>
    rcases hop with rfl | rfl | rfl | rfl | rfl | rfl | rfl | rfl | rfl | rfl | rfl | rfl | rfl | rfl | rfl
    all_goals rfl
  case onlyA =>
    rcases hop with rfl | rfl | rfl | rfl | rfl | rfl
    all_goals simp [decodeRequest, operandA]
  case onlyAB =>
    rcases hop with rfl | rfl | rfl | rfl | rfl
    all_goals simp [decodeRequest, operandA, operandB16, operandBSigned]
  case byte =>
    rcases hop with rfl | rfl | rfl | rfl | rfl
    all_goals simp [decodeRequest, operandA, operandB8, lowByte_congr hb]
  case response =>
    obtain rfl := hop
    simp [decodeRequest, operandA, operandB8, operandC16, lowByte_congr hb]

/-- Settles O6, by running the decoder on the nine words. -/
theorem specWordsDecode : Obligations.SpecWordsDecode := by
  unfold Obligations.SpecWordsDecode
  decide

/-- Settles O42: every instruction has an effect, and an effect is on FR, the engine and the response. -/
theorem everyInstructionIsAnswered : Obligations.EveryInstructionIsAnswered := by
  intro i s
  obtain ⟨x, -, hx⟩ := exec_hasEffectOfFr i s.fr
  exact ⟨x.on s, hx s rfl, rfl, rfl⟩

/-- Settles O57: the first request answers the payload, the second its checksum, and the third writes that into
the checksum field. -/
theorem stampMakesTheFrameValid : Obligations.StampMakesTheFrameValid := by
  intro s d
  obtain ⟨l, hl, hserve⟩ := serveRequests_stamp s d
  exact ⟨l, _, hl, hserve, frameValid_setChecksum s.fr, framePayload_setChecksum s.fr _⟩

/-- Settles O58: operands that fit their fields assemble to their values, ENCODE's command picks the op code,
and the other pseudo-operations are fixed requests. -/
theorem pseudoOperationsExpand : Obligations.PseudoOperationsExpand := by
  refine ⟨fun op a b c ha0 ha hb0 hb hc0 hc => ?request, fun a cmd b c h0 h => ?encode,
    fun a cmd b c h => ?refused, fun _ => rfl, fun _ => ⟨rfl, rfl, rfl, rfl, rfl⟩⟩
  case request =>
    obtain ⟨xa, hxa, hxa'⟩ := assembleA_fits ha0 ha
    obtain ⟨xb, hxb, hxb'⟩ := assembleB_fits hb0 hb
    obtain ⟨xc, hxc, hxc'⟩ := assembleU16_fits hc0 hc
    exact ⟨_, assemble_request hxa hxb hxc, rfl, hxa', hxb', hxc'⟩
  case encode =>
    simp [assemble, encodeOp_of_le h0 h]
  case refused => simp [assemble, encodeOp_of_outside h]

end Sys2Proof.Proofs
end

section
/-! SUPPORT. The engine step by step (40_crc8_engine.md R103), the laws of the CRC (R105), the syndrome of a
frame, and the CRC as a polynomial remainder (R107). -/

namespace Sys2Proof.Machine

/-! ### The engine, step by step (40_crc8_engine.md R103) -/

theorem engineStep_idx_toNat {e : Engine} (h : e.idx ≠ 0) : (engineStep e).idx.toNat = e.idx.toNat - 1 := by
  change (e.idx - 1).toNat = e.idx.toNat - 1
  bv_omega

/-- A done engine takes no step. -/
theorem engineSteps_of_idx_eq_zero {e : Engine} (h : e.idx = 0) (n : Nat) : engineSteps n e = e := by
  cases n with
  | zero => rfl
  | succ n => rw [engineSteps, if_pos h]

/-- Each step counts IDX down by one. -/
theorem engineSteps_idx_toNat (n : Nat) (e : Engine) : (engineSteps n e).idx.toNat = e.idx.toNat - n := by
  induction n generalizing e with
  | zero => rfl
  | succ n ih =>
    by_cases h : e.idx = 0
    · simp [engineSteps_of_idx_eq_zero h, h]
    · rw [engineSteps, if_neg h, ih, engineStep_idx_toNat h]
      omega

theorem engineSteps_add (m n : Nat) (e : Engine) :
    engineSteps (m + n) e = engineSteps n (engineSteps m e) := by
  induction m generalizing e with
  | zero => rw [Nat.zero_add, engineSteps]
  | succ m ih =>
    by_cases h : e.idx = 0
    · simp only [engineSteps_of_idx_eq_zero h]
    · rw [Nat.succ_add, engineSteps, engineSteps, if_neg h, if_neg h, ih]

/-- Cycles of several steps are their steps. -/
theorem engineCycles_eq_engineSteps (bitsPerStep cycles : Nat) (e : Engine) :
    engineCycles bitsPerStep cycles e = engineSteps (bitsPerStep * cycles) e := by
  induction cycles generalizing e with
  | zero => rfl
  | succ n ih => rw [engineCycles, ih, engineCycle, ← engineSteps_add, Nat.mul_succ, Nat.add_comm]

/-- Steps beyond the width change nothing. -/
theorem engineSteps_of_width_le (v : BitVec 64) (w : BitVec 16) {n : Nat} (h : w.toNat ≤ n) :
    engineSteps n (engineStart v w) = engineDone v w.toNat := by
  obtain ⟨extra, rfl⟩ := Nat.exists_eq_add_of_le h
  have hdone : engineSteps w.toNat (engineStart v w) = engineDone v w.toNat := compute_eq_engineDone v w
  rw [engineSteps_add, hdone, engineSteps_of_idx_eq_zero rfl]

/-! ### What the engine is left with (40_crc8_engine.md R104, R106) -/

/-- The checksum's computation for a frame, with SRC as a number. -/
theorem computeChecksum_framePayload (f : Frame) :
    computeChecksum (framePayload f) = engineDone (BitVec.ofNat 64 (f.toNat % 2 ^ 56)) 56 := by
  have hsrc : (framePayload f).setWidth 64 = BitVec.ofNat 64 (f.toNat % 2 ^ 56) := by
    rw [← framePayload_toNat, BitVec.ofNat_toNat]
  rw [computeChecksum, compute_eq_engineDone, hsrc]
  rfl

theorem exec_crc8 {v : Nat} (hv : v < 2 ^ 64) (w : BitVec 16) (s : State) :
    exec (.crc8 v w) s =
      .next (answered s s.fr (engineDone (BitVec.ofNat 64 v) w.toNat)
        (dataResponse ((crc8 v w.toNat).setWidth 64))) := by
  have hcrc : (engineDone (BitVec.ofNat 64 v) w.toNat).crcReg = crc8 v w.toNat := by
    rw [engineDone, BitVec.toNat_ofNat, Nat.mod_eq_of_lt hv]
  refine (crc8_eq v w s).trans ?_
  rw [compute_eq_engineDone, hcrc]

/-- An encoder operation is the common procedure with its variant's command code (R181 to R191). -/
theorem exec_encoderFor (a : Nat) (v : Variant) (s : State) :
    exec (encoderFor a v) s = encodeFrame (variantCode v) a v s := by
  cases v <;> rfl

/-! ### The laws of the CRC (40_crc8_engine.md R105) -/

/-- A run over bits is linear in the value and the register together. -/
theorem crcBits_xor (v1 v2 n : Nat) (r1 r2 : BitVec 8) :
    crcBits (v1 ^^^ v2) n (r1 ^^^ r2) = crcBits v1 n r1 ^^^ crcBits v2 n r2 := by
  induction n generalizing r1 r2 with
  | zero => rfl
  | succ n ih => rw [crcBits, Nat.testBit_xor, crcStep_xor, ih, ← crcBits, ← crcBits]

theorem crc8_xor (v1 v2 w : Nat) : crc8 (v1 ^^^ v2) w = crc8 v1 w ^^^ crc8 v2 w :=
  crcBits_xor v1 v2 w 0 0

/-- Leading zeros do not matter. -/
theorem crc8_of_lt {v k w : Nat} (hv : v < 2 ^ k) (hk : k ≤ w) : crc8 v w = crc8 v k := by
  obtain ⟨zeros, rfl⟩ := Nat.exists_eq_add_of_le hk
  have hhigh : v >>> k = 0 := by rw [Nat.shiftRight_eq_div_pow, Nat.div_eq_of_lt hv]
  rw [crc8, crcBits_add, hhigh, crcBits_zero, ← crc8]

/-- Only the low w bits are read. -/
theorem crc8_mod (v w : Nat) : crc8 (v % 2 ^ w) w = crc8 v w :=
  crcBits_congr (fun i hi => by rw [Nat.testBit_mod_two_pow]; simp [hi]) 0

/-- The register's own top bit shifts out and feeds nothing back. -/
theorem crcStep_top (r : BitVec 8) : crcStep r (r.getLsbD 7) = r <<< 1 := by
  simp [crcStep]

/-- Reading its own low n bits, a register from which the others have gone shifts these out too. -/
theorem crcBits_own_bits (r : BitVec 8) (n : Nat) (hn : n ≤ 8) :
    crcBits r.toNat n (r <<< (8 - n)) = 0 := by
  induction n with
  | zero =>
    rw [crcBits]
    simp
  | succ n ih =>
    have htop : r.toNat.testBit n = (r <<< (8 - (n + 1))).getLsbD 7 := by
      have hbit : 7 - (8 - (n + 1)) = n := by omega
      rw [BitVec.testBit_toNat, BitVec.getLsbD_shiftLeft, hbit]
      simp
    have hshift : 8 - (n + 1) + 1 = 8 - n := by omega
    rw [crcBits, htop, crcStep_top, ← BitVec.shiftLeft_add, hshift]
    exact ih (by omega)

/-- A value with a byte appended. -/
theorem crc8_append (v w : Nat) (x : BitVec 8) :
    crc8 ((v <<< 8) ||| x.toNat) (w + 8) = crcBits x.toNat 8 (crc8 v w) := by
  have hhigh : ((v <<< 8) ||| x.toNat) >>> 8 = v := by
    rw [Nat.shiftRight_or_distrib, Nat.shiftLeft_shiftRight, Nat.shiftRight_eq_div_pow,
      Nat.div_eq_of_lt x.isLt, Nat.or_zero]
  have hlow : ∀ i < 8, ((v <<< 8) ||| x.toNat).testBit i = x.toNat.testBit i := fun i hi => by
    rw [Nat.testBit_or, Nat.testBit_shiftLeft]
    simp [Nat.not_le.2 hi]
  rw [crc8, Nat.add_comm, crcBits_add, hhigh, crcBits_congr hlow, crc8]

/-! ### The syndrome of a frame (40_crc8_engine.md R105 f) -/

/-- `x^n` modulo the CRC's polynomial: the register 1 after n zero bits. -/
def xPow (n : Nat) : BitVec 8 := crcBits 0 n 1

theorem xPow_add (m n : Nat) : xPow (m + n) = crcBits 0 m (xPow n) := by
  rw [xPow, crcBits_add, Nat.zero_shiftRight, xPow]

/-- A 1 bit at place i comes out as `x^(i+8)`. -/
theorem crc8_two_pow {i w : Nat} (h : i < w) : crc8 (2 ^ i) w = xPow (i + 8) := by
  have hlow : ∀ j < i, (2 ^ i).testBit j = (0 : Nat).testBit j := fun j hj => by
    simp [Nat.ne_of_gt hj]
  have htop : crcBits (2 ^ i >>> i) 1 0 = xPow 8 := by
    rw [Nat.shiftRight_eq_div_pow, Nat.div_self (Nat.two_pow_pos i)]
    decide
  rw [crc8_of_lt (Nat.pow_lt_pow_succ (by decide)) h, crc8, crcBits_add, htop, crcBits_congr hlow, xPow_add]

/-- A run over zeros loses nothing of the register. -/
theorem crcBits_zero_eq_zero {n : Nat} {r : BitVec 8} (h : crcBits 0 n r = 0) : r = 0 := by
  have hstep : ∀ r, crcStep r false = 0 → r = 0 := by decide
  induction n generalizing r with
  | zero => exact h
  | succ n ih =>
    rw [crcBits, Nat.zero_testBit] at h
    exact hstep r (ih h)

theorem xPow_ne_zero (n : Nat) : xPow n ≠ 0 :=
  fun h => absurd (crcBits_zero_eq_zero h) (by decide)

/-- The order of x is above 63. -/
theorem xPow_ne_one : ∀ n < 64, 0 < n → xPow n ≠ 1 := by
  decide +kernel

/-- Different powers of x below 64 have different remainders. -/
theorem xPow_inj {m n : Nat} (hm : m < 64) (hn : n < 64) (h : xPow m = xPow n) : m = n := by
  wlog hlt : m < n generalizing m n
  · obtain heq | hgt := Nat.eq_or_lt_of_not_lt hlt
    · exact heq
    · exact (this hn hm h.symm hgt).symm
  obtain ⟨d, rfl⟩ := Nat.exists_eq_add_of_lt hlt
  have hdiff : crcBits 0 m (xPow (d + 1) ^^^ 1) = 0 := by
    have hx := crcBits_xor 0 0 m (xPow (d + 1)) 1
    rwa [← xPow_add, ← xPow, ← Nat.add_assoc, h, Nat.xor_zero, BitVec.xor_self] at hx
  have hone : xPow (d + 1) = 1 := BitVec.xor_eq_zero_iff.1 (crcBits_zero_eq_zero hdiff)
  exact absurd hone (xPow_ne_one (d + 1) (by omega) (Nat.succ_pos d))

/-- How a frame's checksum differs from its payload's CRC. -/
def syndrome (f : Frame) : BitVec 8 := crc8 (framePayload f).toNat 56 ^^^ frameChecksum f

theorem frameValid_iff (f : Frame) : frameValid f ↔ syndrome f = 0 :=
  eq_comm.trans BitVec.xor_eq_zero_iff.symm

theorem syndrome_xor (f g : Frame) : syndrome (f ^^^ g) = syndrome f ^^^ syndrome g := by
  have hp : framePayload (f ^^^ g) = framePayload f ^^^ framePayload g := BitVec.extractLsb'_xor ..
  have hc : frameChecksum (f ^^^ g) = frameChecksum f ^^^ frameChecksum g := BitVec.extractLsb'_xor ..
  rw [syndrome, syndrome, syndrome, hp, hc, BitVec.toNat_xor, crc8_xor]
  ac_rfl

/-- The power of x that frame bit i stands for: the payload's bits follow the checksum's. -/
def bitExponent (i : Nat) : Nat := (i + 8) % 64

theorem bitExponent_lt (i : Nat) : bitExponent i < 64 := Nat.mod_lt _ (by decide)

theorem bitExponent_of_lt {i : Nat} (h : i < 56) : bitExponent i = i + 8 := Nat.mod_eq_of_lt (by omega)

theorem bitExponent_checksum {j : Nat} (h : j < 8) : bitExponent (56 + j) = j := by
  unfold bitExponent
  omega

theorem bitExponent_inj {i j : Nat} (hi : i < 64) (hj : j < 64) (h : bitExponent i = bitExponent j) :
    i = j := by
  unfold bitExponent at h
  omega

theorem syndrome_bit {i : Nat} (hi : i < 64) : syndrome (1#64 <<< i) = xPow (bitExponent i) := by
  have hbit : (1#64 <<< i).toNat = 2 ^ i := by
    rw [BitVec.toNat_shiftLeft, BitVec.toNat_ofNat, Nat.shiftLeft_eq, Nat.one_mod, Nat.one_mul]
    exact Nat.mod_eq_of_lt (Nat.pow_lt_pow_right (by decide) hi)
  by_cases h : i < 56
  · have hlt : 2 ^ i < 2 ^ 56 := Nat.pow_lt_pow_right (by decide) h
    have hc : frameChecksum (1#64 <<< i) = 0 := by
      apply BitVec.eq_of_toNat_eq
      rw [frameChecksum_toNat, hbit, Nat.div_eq_of_lt hlt]
      rfl
    rw [syndrome, framePayload_toNat, hbit, Nat.mod_eq_of_lt hlt, crc8_two_pow h, hc, bitExponent_of_lt h]
    exact BitVec.xor_zero
  · obtain ⟨j, rfl⟩ := Nat.exists_eq_add_of_le (Nat.not_lt.1 h)
    have hj : j < 8 := by omega
    have hx : ∀ j < 8, (xPow j).toNat = 2 ^ j := by decide
    have hc : frameChecksum (1#64 <<< (56 + j)) = xPow j := by
      apply BitVec.eq_of_toNat_eq
      rw [frameChecksum_toNat, hbit, Nat.pow_add, Nat.mul_div_cancel_left _ (by decide), hx j hj]
    rw [syndrome, framePayload_toNat, hbit, Nat.pow_add, Nat.mul_mod_right, crc8, crcBits_zero, hc,
      bitExponent_checksum hj]
    exact BitVec.zero_xor

/-! ### The CRC as a polynomial remainder (40_crc8_engine.md R107) -/

/-- The polynomial over GF(2) of bits below n. -/
noncomputable def bitsPoly (n : Nat) (b : Nat → Bool) : Polynomial (ZMod 2) :=
  ∑ i ∈ Finset.range n, if b i then Polynomial.X ^ i else 0

/-- The polynomial of a register. -/
noncomputable def regPoly (r : BitVec 8) : Polynomial (ZMod 2) := bitsPoly 8 r.getLsbD

/-- `x^8 + x^2 + x + 1`. -/
noncomputable def crcPoly : Polynomial (ZMod 2) :=
  Polynomial.X ^ 8 + Polynomial.X ^ 2 + Polynomial.X + 1

theorem crcPoly_degree : crcPoly.degree = 8 := by
  unfold crcPoly
  compute_degree!

theorem crcPoly_monic : crcPoly.Monic := by
  unfold crcPoly
  monicity!

theorem bitsPoly_succ (n : Nat) (b : Nat → Bool) :
    bitsPoly (n + 1) b = bitsPoly n b + if b n then Polynomial.X ^ n else 0 :=
  Finset.sum_range_succ _ n

theorem bitsPoly_degree_lt (n : Nat) (b : Nat → Bool) : (bitsPoly n b).degree < n := by
  refine Polynomial.mem_degreeLT.1 (Submodule.sum_mem _ fun i hi => Polynomial.mem_degreeLT.2 ?_)
  split
  · rw [Polynomial.degree_X_pow]
    exact_mod_cast Finset.mem_range.1 hi
  · rw [Polynomial.degree_zero]
    exact WithBot.bot_lt_coe n

theorem regPoly_zero : regPoly 0 = 0 := by
  simp [regPoly, bitsPoly]

/-- Over GF(2), terms that are there or not add by xor. -/
theorem ite_add_ite_eq_ite_xor (a b : Bool) (p : Polynomial (ZMod 2)) :
    (if a then p else 0) + (if b then p else 0) = if a ^^ b then p else 0 := by
  cases a <;> cases b <;> simp [CharTwo.add_self_eq_zero]

theorem regPoly_xor (r1 r2 : BitVec 8) : regPoly (r1 ^^^ r2) = regPoly r1 + regPoly r2 := by
  unfold regPoly bitsPoly
  simp only [← Finset.sum_add_distrib, BitVec.getLsbD_xor, ite_add_ite_eq_ite_xor]

/-- Shifting a register multiplies by x, but for the bit that falls out at the top. -/
theorem X_mul_regPoly (r : BitVec 8) :
    Polynomial.X * regPoly r = regPoly (r <<< 1) + if r.getLsbD 7 then Polynomial.X ^ 8 else 0 := by
  unfold regPoly bitsPoly
  simp [Finset.sum_range_succ, mul_add, ← pow_succ', ← pow_two]

/-- The bits that the step feeds back are `x^8` modulo the polynomial (R102). -/
theorem X_pow_add_regPoly_feedback : Polynomial.X ^ 8 + regPoly 0x07#8 = crcPoly := by
  unfold regPoly bitsPoly crcPoly
  simp [Finset.sum_range_succ]
  ring

/-- One step multiplies the register by x and adds the bit times `x^8`, modulo the polynomial (R102). -/
theorem crcPoly_dvd_crcStep (r : BitVec 8) (b : Bool) :
    crcPoly ∣ Polynomial.X * regPoly r + (if b then Polynomial.X ^ 8 else 0) - regPoly (crcStep r b) := by
  rw [X_mul_regPoly, add_assoc, ite_add_ite_eq_ite_xor, crcStep]
  cases r.getLsbD 7 ^^ b with
  | false => simp
  | true =>
    rw [if_pos rfl, if_pos rfl, regPoly_xor, add_sub_add_left_eq_sub, CharTwo.sub_eq_add,
      X_pow_add_regPoly_feedback]

/-- A run over n bits computes `v(x) x^8 + x^n r(x)` modulo the polynomial (R101). -/
theorem crcPoly_dvd_crcBits (v n : Nat) (r : BitVec 8) :
    crcPoly ∣ bitsPoly n v.testBit * Polynomial.X ^ 8 + Polynomial.X ^ n * regPoly r -
      regPoly (crcBits v n r) := by
  induction n generalizing r with
  | zero => simp [bitsPoly, crcBits]
  | succ n ih =>
    have hstep := (crcPoly_dvd_crcStep r (v.testBit n)).mul_left (Polynomial.X ^ n)
    convert (ih (crcStep r (v.testBit n))).add hstep using 1
    rw [bitsPoly_succ, crcBits]
    cases v.testBit n <;> simp <;> ring

theorem bitsPoly_modByMonic (v w : Nat) :
    (bitsPoly w v.testBit * Polynomial.X ^ 8) %ₘ crcPoly = regPoly (crc8 v w) := by
  have hdvd : crcPoly ∣ bitsPoly w v.testBit * Polynomial.X ^ 8 - regPoly (crc8 v w) := by
    have hrun := crcPoly_dvd_crcBits v w 0
    rwa [regPoly_zero, mul_zero, add_zero, ← crc8] at hrun
  have hdegree : (regPoly (crc8 v w)).degree < crcPoly.degree := by
    rw [crcPoly_degree]
    exact bitsPoly_degree_lt 8 _
  rw [Polynomial.modByMonic_eq_of_dvd_sub crcPoly_monic hdvd,
    (Polynomial.modByMonic_eq_self_iff crcPoly_monic).2 hdegree]

end Sys2Proof.Machine
end

section
/-! PROOFS. The statements about the CRC and its engine (40_crc8_engine.md). -/

namespace Sys2Proof.Proofs

open Sys2Proof.Machine

/-- Settles O16: a step counts IDX down by one, and w steps read the w bits of the window from the top. -/
theorem engineTakesWidthStepsToTheCrc : Obligations.EngineTakesWidthStepsToTheCrc := fun v w =>
  ⟨fun n _ => engineSteps_idx_toNat n (engineStart v w), engineSteps_of_width_le v w le_rfl⟩

/-- Settles O17: cycles of several steps are their steps, and a done engine takes no more. -/
theorem crcBitsPerStepChangesNoResult : Obligations.CrcBitsPerStepChangesNoResult := by
  intro v w bitsPerStep cycles _ henough
  rw [engineCycles_eq_engineSteps, engineSteps_of_width_le v w henough]

/-- Settles O18, by what CRC8's computation ends with. -/
theorem crc8AnswersTheCrc : Obligations.Crc8AnswersTheCrc :=
  ⟨fun _ => decodeRequest_crc8, fun s _ w hv => ⟨_, exec_crc8 hv w s⟩⟩

/-- Settles O19: each of the operations leaves its own computation in the engine, and an encoder's frame has
the payload it computed over. -/
theorem engineHoldsItsLastComputation : Obligations.EngineHoldsItsLastComputation := by
  refine fun s t => ⟨fun v w hv h => ?crc, fun h => ?verify, fun a v ha h => ?encoder⟩
  case crc =>
    cases (exec_crc8 hv w s).symm.trans h
    rfl
  case verify =>
    cases (decVerify_eq s).symm.trans h
    exact computeChecksum_framePayload s.fr
  case encoder =>
    rw [exec_encoderFor] at h
    cases (encodeFrame_lt ha _ v s).symm.trans h
    rw [answered_engine, answered_fr, ← computeChecksum_framePayload, framePayload_stamped]

/-- Settles O20: a register of 0 stays 0 over zeros, and only the bits below the width are read. -/
theorem crcReadsOnlyItsWindow : Obligations.CrcReadsOnlyItsWindow := fun v w _ =>
  ⟨rfl, crcBits_zero w, crc8_of_lt, (crc8_mod v w).symm⟩

/-- Settles O21, by linearity of each step. -/
theorem crcIsLinear : Obligations.CrcIsLinear := crc8_xor

/-- Settles O22: the eight bits appended are the register's own, and shift it out. -/
theorem appendingTheCrcGivesZero : Obligations.AppendingTheCrcGivesZero := by
  intro v w
  rw [crc8_append]
  simpa using crcBits_own_bits (crc8 v w) 8 le_rfl

/-- Settles O23: a frame's bits have different powers of x below the 64th as syndromes, so one of them, or two
together, is not 0. -/
theorem oneAndTwoBitErrorsAreDetected : Obligations.OneAndTwoBitErrorsAreDetected := by
  intro f i j hf hi hj
  rw [frameValid_iff] at hf
  simp only [frameValid_iff, syndrome_xor, hf, syndrome_bit hi, syndrome_bit hj]
  refine ⟨?_, fun hij h => hij ?_⟩
  · simpa using xPow_ne_zero (bitExponent i)
  · refine bitExponent_inj hi hj (xPow_inj (bitExponent_lt i) (bitExponent_lt j) ?_)
    simpa using h

/-- Settles O24, by the remainder's uniqueness: the register has degree below 8, and each step keeps it
congruent to what was read. -/
theorem crcIsThePolynomialRemainder : Obligations.CrcIsThePolynomialRemainder := bitsPoly_modByMonic

end Sys2Proof.Proofs
end

section
/-! SUPPORT. The operations on FR (41_frame_ops.md): what each getter and setter answers, the fields after a
setter, setters run in a row, and valid frames that share fields. -/

namespace Sys2Proof

/-! ### The instruction of an op code (30_encoding.md R81) -/

section OpCodes

variable {r : Request}

theorem decodeRequest_frGetAddr (h : r.op = 0x06) : decodeRequest r = .frGetAddr := by
  simp [decodeRequest, h]

theorem decodeRequest_frGetCmd (h : r.op = 0x07) : decodeRequest r = .frGetCmd := by
  simp [decodeRequest, h]

theorem decodeRequest_frGetParam (h : r.op = 0x08) : decodeRequest r = .frGetParam := by
  simp [decodeRequest, h]

theorem decodeRequest_frGetCsum (h : r.op = 0x09) : decodeRequest r = .frGetCsum := by
  simp [decodeRequest, h]

theorem decodeRequest_frGetRaw (h : r.op = 0x0B) : decodeRequest r = .frGetRaw := by
  simp [decodeRequest, h]

end OpCodes

/-- A frame as a number, field by field (30_encoding.md R60). -/
theorem mkFrame_toNat (x : Csum) (p : Param) (k : Cmd) (a : Addr) :
    (mkFrame x p k a).toNat = a.toNat + 4 * k.toNat + 64 * p.toNat + 2 ^ 56 * x.toNat := by
  rw [mkFrame, stamped_toNat, mkPayload_toNat]

end Sys2Proof

namespace Sys2Proof.Machine

/-! ### What a getter answers (41_frame_ops.md R126 to R130) -/

/-- A field is answered zero-extended. -/
theorem respondData_setWidth {n : Nat} (x : BitVec n) (s : State) :
    respondData (x.setWidth 64) s = .next (answeredOnly s (dataResponse (BitVec.ofNat 64 x.toNat))) := by
  rw [respondData_eq, BitVec.ofNat_toNat]

theorem exec_frGetAddr (s : State) :
    exec .frGetAddr s =
      .next (answeredOnly s (dataResponse (BitVec.ofNat 64 (frameAddress s.fr).toNat))) :=
  respondData_setWidth _ s

theorem exec_frGetCmd (s : State) :
    exec .frGetCmd s =
      .next (answeredOnly s (dataResponse (BitVec.ofNat 64 (frameCommand s.fr).toNat))) :=
  respondData_setWidth _ s

theorem exec_frGetParam (s : State) :
    exec .frGetParam s =
      .next (answeredOnly s (dataResponse (BitVec.ofNat 64 (frameParameter s.fr).toNat))) :=
  respondData_setWidth _ s

theorem exec_frGetCsum (s : State) :
    exec .frGetCsum s =
      .next (answeredOnly s (dataResponse (BitVec.ofNat 64 (frameChecksum s.fr).toNat))) :=
  respondData_setWidth _ s

/-! ### What a setter answers for a value in range (41_frame_ops.md R122 to R125) -/

theorem exec_frSetAddr {a : Nat} (ha : a < 4) (s : State) :
    exec (.frSetAddr a) s =
      .next (answered s (setAddress s.fr a) s.engine (dataResponse (setAddress s.fr a))) :=
  writeChecked_lt ha _ s

theorem exec_frSetCmd {a : Nat} (ha : a < 16) (s : State) :
    exec (.frSetCmd a) s =
      .next (answered s (setCommand s.fr a) s.engine (dataResponse (setCommand s.fr a))) :=
  writeChecked_lt ha _ s

theorem exec_frSetParam (a : Nat) (s : State) :
    exec (.frSetParam a) s =
      .next (answered s (setParameter s.fr a) s.engine (dataResponse (setParameter s.fr a))) :=
  writeFrame_eq _ s

theorem exec_frSetCsum {a : Nat} (ha : a < 256) (s : State) :
    exec (.frSetCsum a) s =
      .next (answered s (setChecksum s.fr a) s.engine (dataResponse (setChecksum s.fr a))) :=
  writeChecked_lt ha _ s

/-! ### The fields after a setter (00_scope.md R10) -/

section FieldsAfterSetter

variable (f : Frame) (a : Nat)

@[simp] theorem frameAddress_setAddress : frameAddress (setAddress f a) = BitVec.ofNat 2 a := by
  rw [setAddress, frameAddress_mkFrame]

@[simp] theorem frameCommand_setAddress : frameCommand (setAddress f a) = frameCommand f := by
  rw [setAddress, frameCommand_mkFrame]

@[simp] theorem frameParameter_setAddress : frameParameter (setAddress f a) = frameParameter f := by
  rw [setAddress, frameParameter_mkFrame]

@[simp] theorem frameChecksum_setAddress : frameChecksum (setAddress f a) = frameChecksum f := by
  rw [setAddress, frameChecksum_mkFrame]

@[simp] theorem frameAddress_setCommand : frameAddress (setCommand f a) = frameAddress f := by
  rw [setCommand, frameAddress_mkFrame]

@[simp] theorem frameCommand_setCommand : frameCommand (setCommand f a) = BitVec.ofNat 4 a := by
  rw [setCommand, frameCommand_mkFrame]

@[simp] theorem frameParameter_setCommand : frameParameter (setCommand f a) = frameParameter f := by
  rw [setCommand, frameParameter_mkFrame]

@[simp] theorem frameChecksum_setCommand : frameChecksum (setCommand f a) = frameChecksum f := by
  rw [setCommand, frameChecksum_mkFrame]

@[simp] theorem frameAddress_setParameter : frameAddress (setParameter f a) = frameAddress f := by
  rw [setParameter, frameAddress_mkFrame]

@[simp] theorem frameCommand_setParameter : frameCommand (setParameter f a) = frameCommand f := by
  rw [setParameter, frameCommand_mkFrame]

@[simp] theorem frameParameter_setParameter : frameParameter (setParameter f a) = BitVec.ofNat 50 a := by
  rw [setParameter, frameParameter_mkFrame]

@[simp] theorem frameChecksum_setParameter : frameChecksum (setParameter f a) = frameChecksum f := by
  rw [setParameter, frameChecksum_mkFrame]

@[simp] theorem frameAddress_setChecksum : frameAddress (setChecksum f a) = frameAddress f := by
  rw [setChecksum, frameAddress_mkFrame]

@[simp] theorem frameCommand_setChecksum : frameCommand (setChecksum f a) = frameCommand f := by
  rw [setChecksum, frameCommand_mkFrame]

@[simp] theorem frameParameter_setChecksum : frameParameter (setChecksum f a) = frameParameter f := by
  rw [setChecksum, frameParameter_mkFrame]

end FieldsAfterSetter

/-! ### Setters run in a row (41_frame_ops.md R132) -/

theorem execAll_cons {i : Instr} {s t : State} (h : exec i s = .next t) (l : List Instr) :
    execAll (i :: l) s = execAll l t := by
  rw [execAll, h]

/-- Setters of one value for each field, run in any order and number: a field whose setter was among them holds
its value, and any other field is as it was. -/
theorem execAll_setters {a k x : Nat} (ha : a < 4) (hk : k < 16) (p : Nat) (hx : x < 256) (l : List Instr)
    (hl : ∀ i ∈ l, i = .frSetAddr a ∨ i = .frSetCmd k ∨ i = .frSetParam p ∨ i = .frSetCsum x) (s : State) :
    ∃ t, execAll l s = .next t ∧
      t.fr = mkFrame (if .frSetCsum x ∈ l then BitVec.ofNat 8 x else frameChecksum s.fr)
        (if .frSetParam p ∈ l then BitVec.ofNat 50 p else frameParameter s.fr)
        (if .frSetCmd k ∈ l then BitVec.ofNat 4 k else frameCommand s.fr)
        (if .frSetAddr a ∈ l then BitVec.ofNat 2 a else frameAddress s.fr) := by
  induction l generalizing s with
  | nil => exact ⟨s, rfl, (mkFrame_fields s.fr).symm⟩
  | cons i l ih =>
    obtain ⟨hi, hrest⟩ := List.forall_mem_cons.1 hl
    have hwritten (f : Frame) := ih hrest (answered s f s.engine (dataResponse f))
    rcases hi with rfl | rfl | rfl | rfl
    · rw [execAll_cons (exec_frSetAddr ha s)]
      simpa using hwritten (setAddress s.fr a)
    · rw [execAll_cons (exec_frSetCmd hk s)]
      simpa using hwritten (setCommand s.fr k)
    · rw [execAll_cons (exec_frSetParam p s)]
      simpa using hwritten (setParameter s.fr p)
    · rw [execAll_cons (exec_frSetCsum hx s)]
      simpa using hwritten (setChecksum s.fr x)

/-! ### Valid frames that share fields (30_encoding.md R62) -/

/-- The payload of a valid frame decides its checksum. -/
theorem eq_of_frameValid_of_payload {f g : Frame} (hf : frameValid f) (hg : frameValid g)
    (hpayload : framePayload f = framePayload g) : f = g := by
  have hchecksum : frameChecksum f = frameChecksum g := by rw [hf, hg, hpayload]
  rw [← stamped_fields f, ← stamped_fields g, hpayload, hchecksum]

/-- A value of eight bits has CRC 0 if it is 0 alone: its CRC is that of eight zeros, from the value itself as the
register (40_crc8_engine.md R101, R102). -/
theorem eq_zero_of_crc8_eq_zero {v w : Nat} (hv : v < 2 ^ 8) (hw : 8 ≤ w) (h : crc8 v w = 0) : v = 0 := by
  obtain ⟨x, rfl⟩ : ∃ x : BitVec 8, x.toNat = v := ⟨BitVec.ofNatLT v hv, rfl⟩
  rw [crc8_of_lt hv hw] at h
  have hout : crcBits x.toNat 8 x = 0 := by simpa using crcBits_own_bits x 8 le_rfl
  have hzeros : crcBits 0 8 x = 0 := by
    have hlinear := crcBits_xor x.toNat x.toNat 8 x 0
    rwa [Nat.xor_self, show x ^^^ 0 = x from BitVec.xor_zero, hout, ← crc8, h] at hlinear
  exact congrArg BitVec.toNat (crcBits_zero_eq_zero hzeros)

/-- Payloads with one parameter differ in their low six bits at most. -/
theorem payload_xor_lt {f g : Frame} (h : frameParameter f = frameParameter g) :
    (framePayload f).toNat ^^^ (framePayload g).toNat < 2 ^ 6 := by
  have hparam (f : Frame) : (framePayload f).toNat / 2 ^ 6 = (frameParameter f).toNat := by
    rw [framePayload_toNat, frameParameter_toNat]
    omega
  have hhigh : ((framePayload f).toNat ^^^ (framePayload g).toNat) / 2 ^ 6 = 0 := by
    rw [Nat.xor_div_two_pow, hparam, hparam, h, Nat.xor_self]
  omega

/-- The CRC tells apart any two values of address and command: valid frames with one parameter and one checksum
are one frame. -/
theorem eq_of_frameValid_of_parameter_checksum {f g : Frame} (hf : frameValid f) (hg : frameValid g)
    (hparameter : frameParameter f = frameParameter g) (hchecksum : frameChecksum f = frameChecksum g) :
    f = g := by
  have hcrc : crc8 ((framePayload f).toNat ^^^ (framePayload g).toNat) 56 = 0 := by
    rw [crc8_xor, ← hf, ← hg, hchecksum]
    exact BitVec.xor_self
  have hxor : (framePayload f).toNat ^^^ (framePayload g).toNat = 0 :=
    eq_zero_of_crc8_eq_zero ((payload_xor_lt hparameter).trans (by decide)) (by decide) hcrc
  exact eq_of_frameValid_of_payload hf hg (BitVec.eq_of_toNat_eq (Nat.xor_eq_zero_iff.1 hxor))

end Sys2Proof.Machine
end

section
/-! PROOFS. The statements about the frame register operations (41_frame_ops.md). -/

namespace Sys2Proof.Proofs

open Sys2Proof.Machine

/-- Settles O10, by the bits each setter writes. -/
theorem checkedSettersReplaceOnlyTheirField : Obligations.CheckedSettersReplaceOnlyTheirField := by
  refine ⟨fun _ => decodeRequest_frSetAddr, fun _ => decodeRequest_frSetCmd, fun _ => decodeRequest_frSetCsum,
    fun s a => ⟨fun ha => ?addr, fun ha => writeChecked_ge ha _ s, fun ha => ?cmd,
      fun ha => writeChecked_ge ha _ s, fun ha => ?csum, fun ha => writeChecked_ge ha _ s⟩⟩
  case addr => exact ⟨_, exec_frSetAddr ha s, fun i _ => setAddress_bit s.fr a i⟩
  case cmd => exact ⟨_, exec_frSetCmd ha s, setCommand_bit s.fr a⟩
  case csum => exact ⟨_, exec_frSetCsum ha s, setChecksum_bit s.fr a⟩

/-- Settles O11, by the bits the setter writes. -/
theorem setParameterTruncates : Obligations.SetParameterTruncates :=
  ⟨fun _ => decodeRequest_frSetParam, fun s a => ⟨_, exec_frSetParam a s, setParameter_bit s.fr a⟩⟩

/-- Settles O13: every order holds all four setters, so each field ends with the value set. -/
theorem settersInAnyOrderBuildTheFrame : Obligations.SettersInAnyOrderBuildTheFrame := by
  intro s a k p x l ha hk hx hperm
  have hmem (i : Instr) :
      i ∈ l ↔ i = .frSetAddr a ∨ i = .frSetCmd k ∨ i = .frSetParam p ∨ i = .frSetCsum x := by
    simp [hperm.mem_iff]
  obtain ⟨t, ht, hfr⟩ := execAll_setters ha hk p hx l (fun i => (hmem i).1) s
  refine ⟨t, ht, ?_⟩
  simp only [hmem, true_or, or_true, if_true] at hfr
  rw [hfr, mkFrame_toNat, BitVec.toNat_ofNat, BitVec.toNat_ofNat, BitVec.toNat_ofNat, BitVec.toNat_ofNat,
    Nat.mod_eq_of_lt ha, Nat.mod_eq_of_lt hk, Nat.mod_eq_of_lt hx]

/-- Settles O14: the new FR has the value in the setter's field, and its other fields are the old ones. -/
theorem setterThenGetter : Obligations.SetterThenGetter := by
  refine fun s t a => ⟨fun ha h => ?addr, fun ha h => ?cmd, fun h => ?param, fun ha h => ?csum⟩
  case addr =>
    cases (exec_frSetAddr ha s).symm.trans h
    simp [exec_frGetAddr, Nat.mod_eq_of_lt ha]
  case cmd =>
    cases (exec_frSetCmd ha s).symm.trans h
    simp [exec_frGetCmd, Nat.mod_eq_of_lt ha]
  case param =>
    cases (exec_frSetParam a s).symm.trans h
    simp [exec_frGetParam]
  case csum =>
    cases (exec_frSetCsum ha s).symm.trans h
    simp [exec_frGetCsum, Nat.mod_eq_of_lt ha]

/-- Settles O15: were the new frame valid too, it would be the old one, since a checksum is decided by its
payload, and address and command by the rest of a valid frame. -/
theorem fieldChangeMakesAValidFrameInvalid : Obligations.FieldChangeMakesAValidFrameInvalid := by
  intro s t a hold hne hset hnew
  apply hne
  rcases hset with h | h | h
  · have hfr : t.fr = setAddress s.fr a := (writeChecked_fr h).resolve_right hne
    exact eq_of_frameValid_of_parameter_checksum hnew hold (by simp [hfr]) (by simp [hfr])
  · have hfr : t.fr = setCommand s.fr a := (writeChecked_fr h).resolve_right hne
    exact eq_of_frameValid_of_parameter_checksum hnew hold (by simp [hfr]) (by simp [hfr])
  · have hfr : t.fr = setChecksum s.fr a := (writeChecked_fr h).resolve_right hne
    exact eq_of_frameValid_of_payload hnew hold (by simp [hfr])

/-- Settles O9, by what the shared write of FR answers. -/
theorem constructorsWriteTheWholeFrame : Obligations.ConstructorsWriteTheWholeFrame :=
  ⟨fun _ => decodeRequest_frClear, fun _ => decodeRequest_frLoad, fun s _ =>
    ⟨writeFrame_eq 0 s, fun ha => writeChecked_lt ha _ s, fun ha => writeChecked_ge ha _ s⟩⟩

/-- Settles O12, by each field as a number. -/
theorem gettersAnswerTheirField : Obligations.GettersAnswerTheirField := by
  refine ⟨fun _ => decodeRequest_frGetAddr, fun _ => decodeRequest_frGetCmd, fun _ => decodeRequest_frGetParam,
    fun _ => decodeRequest_frGetCsum, fun _ => decodeRequest_frGetPayload, fun _ => decodeRequest_frGetRaw,
    fun s => ⟨?addr, ?cmd, ?param, ?csum, ?payload, respondData_eq s.fr s⟩⟩
  case addr => rw [exec_frGetAddr, frameAddress_toNat]
  case cmd => rw [exec_frGetCmd, frameCommand_toNat]
  case param => rw [exec_frGetParam, frameParameter_toNat]
  case csum => rw [exec_frGetCsum, frameChecksum_toNat]
  case payload => rw [exec_frGetPayload, ← BitVec.ofNat_toNat, framePayload_toNat]

end Sys2Proof.Proofs
end

section
/-! SUPPORT. The parameter schema (42_param_schema.md) in numbers: the fields that pack writes and unpack reads,
that each gives back what the other took, and the answer that reports a variant. -/

namespace Sys2Proof.Machine

/-! ### The fields pack writes (R151 to R161) -/

theorem packU16_toNat (x : BitVec 16) : (packU16 x).toNat = x.toNat :=
  BitVec.toNat_setWidth_of_le (by decide)

theorem packU8_toNat (x : BitVec 8) : (packU8 x).toNat = x.toNat :=
  BitVec.toNat_setWidth_of_le (by decide)

/-- R153's `trunc_16(angle)` as a number, for every integer. -/
theorem packS16_toNat (n : Int) : (packS16 n).toNat = (n % 65536).toNat := by
  rw [packS16, BitVec.toNat_setWidth_of_le (by decide), BitVec.toNat_ofInt]
  rfl

theorem packPollData_toNat (x : BitVec 8) (d : BitVec 16) :
    (packPollData x d).toNat = 256 * d.toNat + x.toNat := by
  rw [packPollData, BitVec.toNat_setWidth_of_le (by decide), BitVec.toNat_append,
    ← Nat.shiftLeft_add_eq_or_of_lt x.isLt, Nat.shiftLeft_eq, Nat.mul_comm]

/-! ### The fields unpack reads (R162 to R172) -/

theorem unpackU16_toNat (p : Param) : (unpackU16 p).toNat = p.toNat % 65536 := by
  simp [unpackU16]

theorem unpackU8_toNat (p : Param) : (unpackU8 p).toNat = p.toNat % 256 := by
  simp [unpackU8]

theorem unpackData_toNat (p : Param) : (unpackData p).toNat = p.toNat / 256 % 65536 := by
  simp [unpackData, Nat.shiftRight_eq_div_pow]

/-- The two cases of R164. -/
theorem unpackS16_eq (p : Param) :
    unpackS16 p =
      if p.toNat % 65536 < 32768 then (p.toNat % 65536 : Int) else (p.toNat % 65536 : Int) - 65536 := by
  change (unpackU16 p).toInt = _
  rw [BitVec.toInt_eq_toNat_cond, unpackU16_toNat]
  split <;> split <;> omega

theorem fitsS16_unpackS16 (p : Param) : fitsS16 (unpackS16 p) = true := by
  rw [fitsS16_iff, unpackS16_eq]
  split <;> omega

theorem unpackU16_eq_ofNat (p : Param) : unpackU16 p = BitVec.ofNat 16 (p.toNat % 65536) := by
  rw [← unpackU16_toNat, BitVec.ofNat_toNat, BitVec.setWidth_eq]

theorem unpackU8_eq_ofNat (p : Param) : unpackU8 p = BitVec.ofNat 8 (p.toNat % 256) := by
  rw [← unpackU8_toNat, BitVec.ofNat_toNat, BitVec.setWidth_eq]

theorem unpackData_eq_ofNat (p : Param) : unpackData p = BitVec.ofNat 16 (p.toNat / 256 % 65536) := by
  rw [← unpackData_toNat, BitVec.ofNat_toNat, BitVec.setWidth_eq]

/-- The unassigned command codes are the last five (R74, R173). -/
theorem unpackDispatch_eq_none {k : Cmd} (h : 11 ≤ k.toNat) (p : Param) : unpackDispatch k p = none := by
  unfold unpackDispatch
  split
  case h_12 => rfl
  all_goals exact absurd h (by decide)

/-! ### Unpacking what was packed (R174) -/

@[simp] theorem unpackU16_packU16 (x : BitVec 16) : unpackU16 (packU16 x) = x :=
  BitVec.eq_of_toNat_eq (by rw [unpackU16_toNat, packU16_toNat, Nat.mod_eq_of_lt x.isLt])

@[simp] theorem unpackU8_packU8 (x : BitVec 8) : unpackU8 (packU8 x) = x :=
  BitVec.eq_of_toNat_eq (by rw [unpackU8_toNat, packU8_toNat, Nat.mod_eq_of_lt x.isLt])

theorem unpackS16_packS16 {n : Int} (h : fitsS16 n = true) : unpackS16 (packS16 n) = n := by
  have hn := (fitsS16_iff n).1 h
  rw [unpackS16_eq, packS16_toNat]
  split <;> omega

@[simp] theorem unpackU8_packPollData (x : BitVec 8) (d : BitVec 16) : unpackU8 (packPollData x d) = x :=
  BitVec.eq_of_toNat_eq (by rw [unpackU8_toNat, packPollData_toNat]; omega)

@[simp] theorem unpackData_packPollData (x : BitVec 8) (d : BitVec 16) : unpackData (packPollData x d) = d :=
  BitVec.eq_of_toNat_eq (by rw [unpackData_toNat, packPollData_toNat]; omega)

/-! ### Packing what was unpacked (R175) -/

theorem packU16_unpackU16_toNat (p : Param) : (packU16 (unpackU16 p)).toNat = p.toNat % 2 ^ 16 :=
  (packU16_toNat _).trans (unpackU16_toNat p)

/-- The signed value's pattern is the pattern it was read from. -/
theorem packS16_unpackS16 (p : Param) : packS16 (unpackS16 p) = packU16 (unpackU16 p) := by
  rw [packS16, unpackS16, BitVec.ofInt_toInt]
  rfl

theorem packU8_unpackU8_toNat (p : Param) : (packU8 (unpackU8 p)).toNat = p.toNat % 2 ^ 8 :=
  (packU8_toNat _).trans (unpackU8_toNat p)

theorem packPollData_unpack_toNat (p : Param) :
    (packPollData (unpackU8 p) (unpackData p)).toNat = p.toNat % 2 ^ 24 := by
  rw [packPollData_toNat, unpackU8_toNat, unpackData_toNat]
  omega

/-! ### The answer that reports a variant (44_decoder_ops.md R201) -/

theorem respondVariant_of_fields (v : Variant) {d0 : BitVec 64} {d1 : BitVec 16} (h0 : variantD0 v = d0)
    (h1 : variantD1 v = d1) (s : State) :
    respondVariant v s = .next (answeredOnly s ⟨0, variantCode v, d0, d1⟩) := by
  rw [respondVariant_eq, h0, h1]

theorem unpackU16_setWidth (p : Param) : (unpackU16 p).setWidth 64 = BitVec.ofNat 64 (p.toNat % 65536) := by
  rw [← unpackU16_toNat, BitVec.ofNat_toNat]

theorem unpackU8_setWidth (p : Param) : (unpackU8 p).setWidth 64 = BitVec.ofNat 64 (p.toNat % 256) := by
  rw [← unpackU8_toNat, BitVec.ofNat_toNat]

/-- `sext_64(trunc_16(a))` of an angle read from a frame is the angle. -/
theorem variantD0_turn_unpackS16 (p : Param) :
    variantD0 (.turn (unpackS16 p)) = BitVec.ofInt 64 (unpackS16 p) := by
  rw [variantD0, unpackS16, BitVec.ofInt_toInt, BitVec.signExtend]

end Sys2Proof.Machine
end

section
/-! PROOFS. The statements about the parameter schema, and the frames as instructions (42_param_schema.md,
44_decoder_ops.md R201). -/

namespace Sys2Proof.Proofs

open Sys2Proof.Machine

/-- Settles O25, by the number each kind of field packs to; TURN's is the angle modulo 65536. -/
theorem packRules : Obligations.PackRules := by
  refine ⟨packU16_toNat, packU16_toNat, fun n h0 h => ?turn, rfl, packU8_toNat, packU8_toNat, packU8_toNat,
    packU16_toNat, packU8_toNat, packPollData_toNat, packU8_toNat⟩
  case turn =>
    rw [pack, packS16_toNat]
    split <;> omega

/-- Settles O26: each assigned code's arm reads its fields as numbers, and the other codes have none. -/
theorem unpackRules : Obligations.UnpackRules := by
  intro p
  rw [← unpackU16_eq_ofNat, ← unpackS16_eq, ← unpackU8_eq_ofNat, ← unpackData_eq_ofNat]
  exact ⟨rfl, rfl, rfl, rfl, rfl, rfl, rfl, rfl, rfl, rfl, rfl, fun k h => unpackDispatch_eq_none h p⟩

/-- Settles O27, field by field; only TURN's angle needs its domain. -/
theorem unpackAfterPack : Obligations.UnpackAfterPack := by
  intro v hwf
  cases v with
  | turn angle => exact congrArg (some ∘ Variant.turn) (unpackS16_packS16 hwf)
  | stop => rfl
  | move _ | reverse _ | info _ | ping _ | pong _ | error _ | poll _ | response _ _ | crane _ =>
    simp [unpackDispatch, variantCode, pack]

/-- Settles O28, by the arm of the dispatch that gave the variant. -/
theorem packAfterUnpackKeepsTheUsedBits : Obligations.PackAfterUnpackKeepsTheUsedBits := by
  intro k p v h
  unfold unpackDispatch at h
  split at h <;> cases h
  case h_1 | h_2 | h_8 => exact ⟨packU16_unpackU16_toNat p, rfl, rfl⟩
  case h_3 =>
    exact ⟨(congrArg BitVec.toNat (packS16_unpackS16 p)).trans (packU16_unpackU16_toNat p), rfl,
      fitsS16_unpackS16 p⟩
  case h_4 => exact ⟨(Nat.mod_one _).symm, rfl, rfl⟩
  case h_5 | h_6 | h_7 | h_9 | h_11 => exact ⟨packU8_unpackU8_toNat p, rfl, rfl⟩
  case h_10 => exact ⟨packPollData_unpack_toNat p, rfl, rfl⟩

/-- Settles O36: an assigned frame reports its variant, whose fields are the parameter's as numbers; an
unassigned one raises the error. -/
theorem frameWordsAnswerTheirVariant : Obligations.FrameWordsAnswerTheirVariant := by
  rintro s a p x n rfl
  rw [← unpackS16_eq, ← unpackData_eq_ofNat]
  have u16 := unpackU16_setWidth p
  have u8 := unpackU8_setWidth p
  have unknown := raiseError_eq .unknownCommand s
  exact ⟨respondVariant_of_fields (.move _) u16 rfl s, respondVariant_of_fields (.reverse _) u16 rfl s,
    respondVariant_of_fields (.turn _) (variantD0_turn_unpackS16 p) rfl s,
    respondVariant_of_fields .stop rfl rfl s, respondVariant_of_fields (.info _) u8 rfl s,
    respondVariant_of_fields (.ping _) u8 rfl s, respondVariant_of_fields (.pong _) u8 rfl s,
    respondVariant_of_fields (.error _) u16 rfl s, respondVariant_of_fields (.poll _) u8 rfl s,
    respondVariant_of_fields (.response _ _) u8 rfl s, respondVariant_of_fields (.crane _) u8 rfl s,
    unknown, unknown, unknown, unknown, unknown⟩

/-- Settles O37, by the sixteen command codes (`exec_decodeFrame`). -/
theorem decParamsExecutesTheFrame : Obligations.DecParamsExecutesTheFrame := fun s => (exec_decodeFrame s).symm

end Sys2Proof.Proofs
end

section
/-! SUPPORT. The encoder operations (43_encoder_ops.md): the requests that name them, the frame they write, and
the decoder's answers for a frame that stands in FR. -/

namespace Sys2Proof.Machine

/-! ### The instruction of an op code (30_encoding.md R81, R84) -/

theorem operandB8_eq_lowB (r : Request) : operandB8 r = lowB r := by
  apply BitVec.eq_of_toNat_eq
  simp [operandB8, lowB]

/-- To name an instruction, it is enough to look at the operands under the op code itself. -/
theorem requestNames_of_operands {op : BitVec 5} {i : Request → Instr}
    (h : ∀ a b c, decodeRequest { op := op, a := a, b := b, c := c } = i { op := op, a := a, b := b, c := c }) :
    requestNames op i := by
  rintro ⟨_, a, b, c⟩ rfl
  exact h a b c

/-- An instruction of A and an 8-bit field is named with B[7:0]. -/
theorem requestNames_of_operandB8 {op : BitVec 5} {i : Nat → BitVec 8 → Instr}
    (h : ∀ a b c, decodeRequest { op := op, a := a, b := b, c := c } =
      i a.toNat (operandB8 { op := op, a := a, b := b, c := c })) :
    requestNames op fun r => i r.a.toNat (lowB r) :=
  requestNames_of_operands fun a b c => by rw [h, operandB8_eq_lowB]

/-! ### The frame an encoder operation writes (43_encoder_ops.md R180) -/

/-- R180's payload `{P, k, addr}` of a variant. -/
def encodedPayload (a : Nat) (v : Variant) : Payload := mkPayload (pack v) (variantCode v) (BitVec.ofNat 2 a)

/-- R180's frame: the payload with its checksum. -/
def encodedFrame (a : Nat) (v : Variant) : Frame :=
  stamped (crc8 (encodedPayload a v).toNat 56) (encodedPayload a v)

section EncodedFrame

variable (a : Nat) (v : Variant)

@[simp] theorem frameAddress_encodedFrame : frameAddress (encodedFrame a v) = BitVec.ofNat 2 a :=
  frameAddress_mkFrame _ _ _ _

@[simp] theorem frameCommand_encodedFrame : frameCommand (encodedFrame a v) = variantCode v :=
  frameCommand_mkFrame _ _ _ _

@[simp] theorem frameParameter_encodedFrame : frameParameter (encodedFrame a v) = pack v :=
  frameParameter_mkFrame _ _ _ _

theorem frameValid_encodedFrame : frameValid (encodedFrame a v) := by
  rw [frameValid, encodedFrame, frameChecksum_stamped, framePayload_stamped]

end EncodedFrame

theorem encodedPayload_toNat {a : Nat} (ha : a < 4) (v : Variant) :
    (encodedPayload a v).toNat = payloadNumber (variantCode v).toNat a (pack v).toNat := by
  rw [encodedPayload, mkPayload_toNat, BitVec.toNat_ofNat, Nat.mod_eq_of_lt ha, payloadNumber]

/-- A payload under its checksum, as a number. -/
theorem stamped_crc8 (pl : Payload) : stamped (crc8 pl.toNat 56) pl = stampedNumber pl.toNat := by
  rw [stampedNumber, ← stamped_toNat, BitVec.ofNat_toNat, BitVec.setWidth_eq]

theorem exec_encoderFor_lt {a : Nat} (ha : a < 4) (v : Variant) (s : State) :
    exec (encoderFor a v) s =
      .next (answered s (encodedFrame a v) (computeChecksum (encodedPayload a v))
        (dataResponse (encodedFrame a v))) := by
  rw [exec_encoderFor, encodeFrame_lt ha, encodedFrame, ← computeChecksum_crcReg]
  rfl

theorem exec_encoderFor_ge {a : Nat} (ha : 4 ≤ a) (v : Variant) (s : State) :
    exec (encoderFor a v) s = .next (answeredOnly s (errorResponse .rangeError)) := by
  rw [exec_encoderFor, encodeFrame_ge ha]

/-- The frame written, from the number its fields pack to. -/
theorem exec_encoderFor_encoded {a p : Nat} (ha : a < 4) {v : Variant} (hp : (pack v).toNat = p) (s : State) :
    ∃ e, exec (encoderFor a v) s = .next (encoded s e (variantCode v).toNat a p) := by
  refine ⟨computeChecksum (encodedPayload a v), ?_⟩
  rw [exec_encoderFor_lt ha, encodedFrame, stamped_crc8, encodedPayload_toNat ha, hp]
  rfl

/-! ### The setter sequence (41_frame_ops.md R132, 43_encoder_ops.md R180) -/

theorem exec_frClear (s : State) : exec .frClear s = .next (answered s 0 s.engine (dataResponse 0)) :=
  writeFrame_eq 0 s

/-- FR_CLEAR and the three setters leave the encoder's payload, under the checksum 0. -/
theorem execAll_setterSequence {a : Nat} (ha : a < 4) (v : Variant) (s : State) :
    ∃ u, execAll [.frClear, .frSetAddr a, .frSetCmd (variantCode v).toNat, .frSetParam (pack v).toNat] s =
        .next u ∧ u.fr = stamped 0 (encodedPayload a v) := by
  rw [execAll_cons (exec_frClear s)]
  obtain ⟨u, hu, hfr⟩ := execAll_setters ha (variantCode v).isLt (pack v).toNat (x := 0) (by decide)
    [.frSetAddr a, .frSetCmd (variantCode v).toNat, .frSetParam (pack v).toNat] (by simp)
    (answered s 0 s.engine (dataResponse 0))
  refine ⟨u, hu, ?_⟩
  simpa [frameChecksum, mkFrame, encodedPayload] using hfr

theorem setChecksum_stamped (x y : Csum) (pl : Payload) : setChecksum (stamped x pl) y.toNat = stamped y pl := by
  rw [← stamped_fields (setChecksum _ _)]
  simp

/-! ### The decoder's requests on the frame in FR (44_decoder_ops.md R200, R201, R203) -/

theorem exec_frLoad_frame (f : Frame) (s : State) :
    exec (.frLoad f.toNat) s = .next (answered s f s.engine (dataResponse f)) := by
  refine (writeChecked_lt f.isLt _ s).trans ?_
  rw [BitVec.ofNat_toNat, BitVec.setWidth_eq]

theorem exec_decVerify_of_frameValid {s : State} (h : frameValid s.fr) :
    exec .decVerify s =
      .next (answered s s.fr (computeChecksum (framePayload s.fr)) (dataResponse 1)) := by
  have hcrc : (computeChecksum (framePayload s.fr)).crcReg = frameChecksum s.fr :=
    (computeChecksum_crcReg _).trans h.symm
  refine (decVerify_eq s).trans ?_
  simp [hcrc, boolData]

theorem exec_decParams_of_unpackDispatch {s : State} {v : Variant}
    (h : unpackDispatch (frameCommand s.fr) (frameParameter s.fr) = some v) :
    exec .decParams s =
      .next (answeredOnly s { status := 0, tag := variantCode v, d0 := variantD0 v, d1 := variantD1 v }) := by
  change execDecParams s = _
  rw [execDecParams, h]
  exact respondVariant_eq v s

/-- A request that is answered puts its response first. -/
theorem serveAll_answered {r : Request} {i : Instr} {rs : List Request} {s : State} {fr : Frame} {e : Engine}
    {rsp : Response} {responses : List Response} {f : Frame} (hi : decodeRequest r = i)
    (h : exec i s = .next (answered s fr e rsp))
    (hrs : serveAll rs (answered s fr e rsp) = some (responses, f)) :
    serveAll (r :: rs) s = some (rsp :: responses, f) :=
  serveAll_cons (hi ▸ h) hrs

/-- The decode run of a valid frame of an assigned command answers the frame, its fields, and 1, and leaves the
frame. -/
theorem decodeRun_of_frameValid {f : Frame} (hvalid : frameValid f) {v : Variant}
    (hv : unpackDispatch (frameCommand f) (frameParameter f) = some v) (s : State) :
    decodeRun f s =
      some ([dataResponse f, dataResponse (BitVec.ofNat 64 (frameAddress f).toNat),
        dataResponse (BitVec.ofNat 64 (frameCommand f).toNat),
        { status := 0, tag := variantCode v, d0 := variantD0 v, d1 := variantD1 v }, dataResponse 1], f) := by
  refine serveAll_answered (decodeRequest_frLoad rfl) (exec_frLoad_frame f s) ?_
  refine serveAll_answered (decodeRequest_frGetAddr rfl) (exec_frGetAddr _) ?_
  refine serveAll_answered (decodeRequest_frGetCmd rfl) (exec_frGetCmd _) ?_
  refine serveAll_answered (decodeRequest_decParams rfl) (exec_decParams_of_unpackDispatch hv) ?_
  exact serveAll_answered (decodeRequest_decVerify rfl) (exec_decVerify_of_frameValid hvalid) rfl

end Sys2Proof.Machine
end

section
/-! PROOFS. The statements about the encoder operations (43_encoder_ops.md). -/

namespace Sys2Proof.Proofs

open Sys2Proof.Machine

/-- Settles O33: the encoded frame is valid and has the address, the command code and the packed variant in its
fields, and unpacking gives the variant back. -/
theorem decodeRunAfterEncoder : Obligations.DecodeRunAfterEncoder := by
  intro s s' a v ha hwf
  refine ⟨_, exec_encoderFor_lt ha v s, frameValid_encodedFrame a v, ?_⟩
  have hv : unpackDispatch (frameCommand (encodedFrame a v)) (frameParameter (encodedFrame a v)) = some v := by
    rw [frameCommand_encodedFrame, frameParameter_encodedFrame, unpackAfterPack v hwf]
  rw [answered_fr, decodeRun_of_frameValid (frameValid_encodedFrame a v) hv, frameAddress_encodedFrame,
    frameCommand_encodedFrame, BitVec.toNat_ofNat, Nat.mod_eq_of_lt ha, BitVec.ofNat_toNat]

/-- Settles O29, by the number each variant's field packs to; TURN's is the angle modulo 65536. -/
theorem encodersOfSixteenBitFields : Obligations.EncodersOfSixteenBitFields := by
  refine ⟨requestNames_of_operands fun _ _ _ => rfl, requestNames_of_operands fun _ _ _ => rfl,
    requestNames_of_operands fun _ _ _ => rfl, requestNames_of_operands fun _ _ _ => rfl,
    fun s a d n _ _ => ⟨fun ha => ?encoded, fun ha => ?range⟩⟩
  case encoded =>
    have encodes {v : Variant} {p : Nat} (hp : (pack v).toNat = p) := exec_encoderFor_encoded ha hp s
    exact ⟨encodes (v := .move d) (packU16_toNat d), encodes (v := .reverse d) (packU16_toNat d),
      encodes (v := .turn n) (packS16_toNat n), encodes (v := .error d) (packU16_toNat d)⟩
  case range =>
    have refuses (v : Variant) := exec_encoderFor_ge ha v s
    exact ⟨refuses (.move d), refuses (.reverse d), refuses (.turn n), refuses (.error d)⟩

/-- Settles O30: the five fields pack to their own number, and B[7:0] is the operand that the requests give. -/
theorem encodersOfEightBitFields : Obligations.EncodersOfEightBitFields := by
  refine ⟨requestNames_of_operandB8 fun _ _ _ => rfl, requestNames_of_operandB8 fun _ _ _ => rfl,
    requestNames_of_operandB8 fun _ _ _ => rfl, requestNames_of_operandB8 fun _ _ _ => rfl,
    requestNames_of_operandB8 fun _ _ _ => rfl, fun s a x => ⟨fun ha => ?encoded, fun ha => ?range⟩⟩
  case encoded =>
    have encodes {v : Variant} (hp : pack v = packU8 x) :=
      exec_encoderFor_encoded ha ((congrArg BitVec.toNat hp).trans (packU8_toNat x)) s
    exact ⟨encodes (v := .info x) rfl, encodes (v := .ping x) rfl, encodes (v := .pong x) rfl,
      encodes (v := .poll x) rfl, encodes (v := .crane x) rfl⟩
  case range =>
    have refuses (v : Variant) := exec_encoderFor_ge ha v s
    exact ⟨refuses (.info x), refuses (.ping x), refuses (.pong x), refuses (.poll x), refuses (.crane x)⟩

/-- Settles O31: STOP packs to 0, and RESPONSE's data stands above its poll id. -/
theorem encodersOfStopAndResponse : Obligations.EncodersOfStopAndResponse := by
  refine ⟨requestNames_of_operands fun _ _ _ => rfl, requestNames_of_operands fun a b c => ?named,
    fun s a x d => ⟨fun ha => ?encoded, fun ha => ?range⟩⟩
  case named => exact congrArg (Instr.encResponse a.toNat · c) (operandB8_eq_lowB _)
  case encoded =>
    exact ⟨exec_encoderFor_encoded (v := .stop) ha rfl s,
      exec_encoderFor_encoded (v := .response x d) ha ((packPollData_toNat x d).trans (Nat.add_comm _ _)) s⟩
  case range => exact ⟨exec_encoderFor_ge ha .stop s, exec_encoderFor_ge ha (.response x d) s⟩

/-- Settles O32: the setters leave the encoder's payload under the checksum 0, and STAMP puts the payload's
checksum in its place. -/
theorem encoderEqualsTheSetterSequence : Obligations.EncoderEqualsTheSetterSequence := by
  intro s a v ha _
  obtain ⟨u, hu, hfr⟩ := execAll_setterSequence ha v s
  obtain ⟨stamp, hstamp, hserve⟩ := serveRequests_stamp u 0
  refine ⟨_, u, stamp, _, exec_encoderFor_lt ha v s, hu, hstamp, hserve, ?_⟩
  rw [answered_fr, answered_fr, hfr, framePayload_stamped, setChecksum_stamped, encodedFrame]

end Sys2Proof.Proofs
end

section
/-! SUPPORT. The decoder operations (44_decoder_ops.md): DEC_VERIFY's answer for a frame that is not valid, a frame
with its checksum flipped, and DEC_PARAMS's answer from the command code in FR. -/

namespace Sys2Proof.Machine

/-! ### DEC_VERIFY (R200, R204) -/

/-- R62 in numbers: the low 56 bits of a frame against its top byte. -/
theorem frameValid_iff_toNat (f : Frame) :
    frameValid f ↔ (crc8 (f.toNat % 2 ^ 56) 56).toNat = f.toNat / 2 ^ 56 := by
  rw [frameValid, ← BitVec.toNat_inj, frameChecksum_toNat, framePayload_toNat, eq_comm]

theorem exec_decVerify_of_not_frameValid {s : State} (h : ¬ frameValid s.fr) :
    exec .decVerify s =
      .next (answered s s.fr (computeChecksum (framePayload s.fr)) (dataResponse 0)) := by
  have hcrc : (computeChecksum (framePayload s.fr)).crcReg ≠ frameChecksum s.fr := fun heq =>
    h (heq.symm.trans (computeChecksum_crcReg _))
  refine (decVerify_eq s).trans ?_
  simp [hcrc, boolData]

theorem decVerify_rsp_of_not_frameValid {s t : State} (h : ¬ frameValid s.fr) (ht : exec .decVerify s = .next t) :
    t.rsp = dataResponse 0 := by
  cases (exec_decVerify_of_not_frameValid h).symm.trans ht
  rfl

theorem frameValid_of_decVerify_d0_eq_one {s t : State} (ht : exec .decVerify s = .next t) (hone : t.rsp.d0 = 1) :
    frameValid s.fr := by
  by_contra hinvalid
  rw [decVerify_rsp_of_not_frameValid hinvalid ht] at hone
  exact absurd hone (by decide)

/-- The checksum byte alone, all ones, over the payload 0, whose CRC is 0. -/
theorem syndrome_checksumByte : syndrome 0xFF00000000000000#64 = 0xFF := by
  have hpayload : framePayload 0xFF00000000000000#64 = 0 := by decide
  have hcrc : crc8 (0 : Payload).toNat 56 = 0 := crcBits_zero 56
  rw [syndrome, hpayload, hcrc]
  decide

theorem not_frameValid_flipped_checksum {f : Frame} (h : frameValid f) :
    ¬ frameValid (f ^^^ 0xFF00000000000000#64) := by
  rw [frameValid_iff] at h
  rw [frameValid_iff, syndrome_xor, h, syndrome_checksumByte]
  decide

/-! ### DEC_PARAMS (R201) -/

/-- The report of an assigned command code, from the fields of its variant. -/
theorem exec_decParams_of_fields {s : State} {k : Nat} (hk : frameCommand s.fr = BitVec.ofNat 4 k) {v : Variant}
    (hv : unpackDispatch (BitVec.ofNat 4 k) (frameParameter s.fr) = some v) {d0 : BitVec 64} {d1 : BitVec 16}
    (h0 : variantD0 v = d0) (h1 : variantD1 v = d1) :
    exec .decParams s = .next (answeredOnly s ⟨0, variantCode v, d0, d1⟩) := by
  rw [exec_decParams_of_unpackDispatch (hk ▸ hv), h0, h1]

theorem exec_decParams_of_unassigned {s : State} (h : 11 ≤ (frameCommand s.fr).toNat) :
    exec .decParams s = .next (answeredOnly s (errorResponse .unknownCommand)) := by
  change execDecParams s = _
  rw [execDecParams, unpackDispatch_eq_none h]
  exact raiseError_eq .unknownCommand s

end Sys2Proof.Machine
end

section
/-! PROOFS. The statements about the decoder operations (44_decoder_ops.md). -/

namespace Sys2Proof.Proofs

open Sys2Proof.Machine

/-- Settles O34, by whether the frame in FR is valid. -/
theorem decVerifyAnswersValidity : Obligations.DecVerifyAnswersValidity := by
  refine ⟨fun _ => decodeRequest_decVerify, fun s => ⟨computeChecksum (framePayload s.fr), ?_⟩⟩
  by_cases hvalid : frameValid s.fr
  · rw [if_pos ((frameValid_iff_toNat _).1 hvalid), exec_decVerify_of_frameValid hvalid]
  · rw [if_neg (mt (frameValid_iff_toNat _).2 hvalid), exec_decVerify_of_not_frameValid hvalid]

/-- Settles O38: the flip adds the syndrome 0xFF, so a valid frame does not stay valid. -/
theorem flippedChecksumFailsVerify : Obligations.FlippedChecksumFailsVerify := by
  intro s t u ht hone hu
  have hvalid : frameValid s.fr := frameValid_of_decVerify_d0_eq_one ht hone
  have hinvalid : ¬ frameValid (s.fr ^^^ 0xFF00000000000000#64) := not_frameValid_flipped_checksum hvalid
  exact decVerify_rsp_of_not_frameValid (s := { s with fr := _ }) hinvalid hu

/-- Settles O35: an assigned command code reports its variant, whose fields are the parameter's as numbers; an
unassigned one raises the error. -/
theorem decParamsAnswersTheVariant : Obligations.DecParamsAnswersTheVariant := by
  refine ⟨fun _ => decodeRequest_decParams, fun s k p hk hp => ?_⟩
  rw [← frameCommand_toNat] at hk
  rw [← frameParameter_toNat] at hp
  subst hp
  rw [← unpackS16_eq, ← unpackData_eq_ofNat]
  have hcode : frameCommand s.fr = BitVec.ofNat 4 k := by rw [hk, BitVec.ofNat_toNat, BitVec.setWidth_eq]
  have u16 := unpackU16_setWidth (frameParameter s.fr)
  have u8 := unpackU8_setWidth (frameParameter s.fr)
  refine ⟨?u16, ?turn, ?stop, ?u8, ?response, fun h => exec_decParams_of_unassigned (hk ▸ h)⟩
  case u16 => rintro (rfl | rfl | rfl) <;> exact exec_decParams_of_fields hcode rfl u16 rfl
  case turn =>
    rintro rfl
    exact exec_decParams_of_fields hcode rfl (variantD0_turn_unpackS16 _) rfl
  case stop =>
    rintro rfl
    exact exec_decParams_of_fields hcode rfl rfl rfl
  case u8 => rintro (rfl | rfl | rfl | rfl | rfl) <;> exact exec_decParams_of_fields hcode rfl u8 rfl
  case response =>
    rintro rfl
    exact exec_decParams_of_fields hcode rfl u8 rfl

end Sys2Proof.Proofs
end

section
/-! SUPPORT. Errors (60_exceptions.md): the causes of each error status, what an error is as an effect, and that a
port cycle always has a next state. -/

namespace Sys2Proof.Machine

/-! ### The causes of an error (R221 to R223) -/

/-- When a request, with FR = f, is to raise each error status, as R221, R222 and R223 list it. OK is no error. -/
def ErrorCause (r : Request) (f : Frame) : Status → Prop
  | .ok => False
  | .rangeError =>
    (r.op = 0x01 ∧ 2 ^ 64 ≤ r.a.toNat) ∨ (r.op = 0x02 ∧ 4 ≤ r.a.toNat) ∨ (r.op = 0x03 ∧ 16 ≤ r.a.toNat) ∨
      (r.op = 0x05 ∧ 256 ≤ r.a.toNat) ∨ (0x10 ≤ r.op.toNat ∧ r.op.toNat ≤ 0x1A ∧ 4 ≤ r.a.toNat)
  | .unknownCommand => r.op = 0x0E ∧ 0xB ≤ f.toNat / 4 % 16
  | .illegalOp => r.op = 0x0F ∨ 0x1B ≤ r.op.toNat

/-- A request with a cause raises that error. -/
theorem exec_decodeRequest_of_errorCause {r : Request} {s : State} {st : Status} (hcause : ErrorCause r s.fr st) :
    exec (decodeRequest r) s = .next (answeredOnly s (errorResponse st)) := by
  cases st with
  | ok => exact hcause.elim
  | rangeError =>
    obtain ⟨hop, ha⟩ | ⟨hop, ha⟩ | ⟨hop, ha⟩ | ⟨hop, ha⟩ | ⟨hlow, hhigh, ha⟩ := hcause
    · rw [decodeRequest_frLoad hop]
      exact writeChecked_ge ha _ s
    · rw [decodeRequest_frSetAddr hop]
      exact writeChecked_ge ha _ s
    · rw [decodeRequest_frSetCmd hop]
      exact writeChecked_ge ha _ s
    · rw [decodeRequest_frSetCsum hop]
      exact writeChecked_ge ha _ s
    · obtain ⟨k, v, hexec⟩ := exec_decodeRequest_encoder r ⟨hlow, hhigh⟩
      rw [hexec]
      exact encodeFrame_ge ha k v s
  | unknownCommand =>
    obtain ⟨hop, hcode⟩ := hcause
    rw [decodeRequest_decParams hop]
    exact exec_decParams_of_unassigned (frameCommand_toNat s.fr ▸ hcode)
  | illegalOp =>
    rw [exec_decodeRequest_reserved r hcause]
    exact raiseError_eq .illegalOp s

theorem writeChecked_ok_or_ge {bound a : Nat} {f : Frame} {s t : State} (h : writeChecked bound a f s = .next t) :
    t.rsp.status = 0 ∨ bound ≤ a := by
  refine (Nat.lt_or_ge a bound).imp_left fun ha => ?_
  cases (writeChecked_lt ha f s).symm.trans h
  rfl

theorem encodeFrame_ok_or_ge {k : Cmd} {a : Nat} {v : Variant} {s t : State} (h : encodeFrame k a v s = .next t) :
    t.rsp.status = 0 ∨ 4 ≤ a := by
  refine (Nat.lt_or_ge a 4).imp_left fun ha => ?_
  cases (encodeFrame_lt ha k v s).symm.trans h
  rfl

/-- Only the last five command codes are unassigned (R66, R173). -/
theorem le_of_unpackDispatch_eq_none {k : Cmd} {p : Param} (h : unpackDispatch k p = none) : 11 ≤ k.toNat := by
  unfold unpackDispatch at h
  split at h
  case h_12 =>
    simp only [imp_false] at *
    bv_omega
  all_goals exact nomatch h

theorem execDecParams_ok_or_unassigned {s t : State} (h : execDecParams s = .next t) :
    t.rsp.status = 0 ∨ 11 ≤ (frameCommand s.fr).toNat := by
  rw [execDecParams] at h
  split at h
  next =>
    cases h
    exact .inl rfl
  next hnone => exact .inr (le_of_unpackDispatch_eq_none hnone)

/-- A request is answered with STATUS = OK, or it has a cause for an error: by its op code. -/
theorem exec_decodeRequest_ok_or_errorCause {r : Request} {s t : State} (h : exec (decodeRequest r) s = .next t) :
    t.rsp.status = 0 ∨ ∃ st, ErrorCause r s.fr st := by
  obtain hop | hop | hop | hop | hop | hop | hget | hop | hop | hop | ⟨hlow, hhigh⟩ | hreserved :
      r.op = 0x00 ∨ r.op = 0x01 ∨ r.op = 0x02 ∨ r.op = 0x03 ∨ r.op = 0x04 ∨ r.op = 0x05 ∨
        (0x06 ≤ r.op.toNat ∧ r.op.toNat ≤ 0x0B) ∨ r.op = 0x0C ∨ r.op = 0x0D ∨ r.op = 0x0E ∨
        (0x10 ≤ r.op.toNat ∧ r.op.toNat ≤ 0x1A) ∨ (r.op = 0x0F ∨ 0x1B ≤ r.op.toNat) := by
    bv_omega
  · rw [decodeRequest_frClear hop] at h
    cases h
    exact .inl rfl
  · rw [decodeRequest_frLoad hop] at h
    exact (writeChecked_ok_or_ge h).imp_right fun ha => ⟨.rangeError, .inl ⟨hop, ha⟩⟩
  · rw [decodeRequest_frSetAddr hop] at h
    exact (writeChecked_ok_or_ge h).imp_right fun ha => ⟨.rangeError, .inr (.inl ⟨hop, ha⟩)⟩
  · rw [decodeRequest_frSetCmd hop] at h
    exact (writeChecked_ok_or_ge h).imp_right fun ha => ⟨.rangeError, .inr (.inr (.inl ⟨hop, ha⟩))⟩
  · rw [decodeRequest_frSetParam hop] at h
    cases h
    exact .inl rfl
  · rw [decodeRequest_frSetCsum hop] at h
    exact (writeChecked_ok_or_ge h).imp_right fun ha => ⟨.rangeError, .inr (.inr (.inr (.inl ⟨hop, ha⟩)))⟩
  · obtain ⟨d, hd⟩ := exec_decodeRequest_getter r hget
    rw [hd] at h
    cases h
    exact .inl rfl
  · rw [decodeRequest_crc8 hop] at h
    cases (crc8_eq _ _ s).symm.trans h
    exact .inl rfl
  · rw [decodeRequest_decVerify hop] at h
    cases (decVerify_eq s).symm.trans h
    exact .inl rfl
  · rw [decodeRequest_decParams hop] at h
    exact (execDecParams_ok_or_unassigned h).imp_right fun hcode =>
      ⟨.unknownCommand, hop, frameCommand_toNat s.fr ▸ hcode⟩
  · obtain ⟨k, v, hexec⟩ := exec_decodeRequest_encoder r ⟨hlow, hhigh⟩
    rw [hexec] at h
    exact (encodeFrame_ok_or_ge h).imp_right fun ha =>
      ⟨.rangeError, .inr (.inr (.inr (.inr ⟨hlow, hhigh, ha⟩)))⟩
  · exact .inr ⟨.illegalOp, hreserved⟩

theorem statusCode_injective : Function.Injective statusCode := by
  rintro (_ | _ | _ | _) (_ | _ | _ | _)
  all_goals decide

/-- A request raises an error exactly when it has a cause for it: with no cause STATUS is OK, and a cause of
another error would have given another status. -/
theorem status_eq_iff_errorCause {r : Request} {s t : State} (h : exec (decodeRequest r) s = .next t) {st : Status}
    (hst : st ≠ .ok) : t.rsp.status = statusCode st ↔ ErrorCause r s.fr st := by
  have status_of_cause {st' : Status} (hcause : ErrorCause r s.fr st') : t.rsp.status = statusCode st' := by
    cases (exec_decodeRequest_of_errorCause hcause).symm.trans h
    rfl
  refine ⟨fun hstatus => ?_, status_of_cause⟩
  obtain hok | ⟨st', hcause⟩ := exec_decodeRequest_ok_or_errorCause h
  · have hcode : statusCode st = statusCode .ok := hstatus.symm.trans hok
    exact absurd (statusCode_injective hcode) hst
  · exact statusCode_injective ((status_of_cause hcause).symm.trans hstatus) ▸ hcause

/-! ### What an error writes (R224) -/

/-- A legal effect with an error status is a response with that status and no data, and nothing else. -/
theorem Effect.Legal.on_of_error {s : State} {x : Effect} (hx : x.Legal s.fr) (herr : x.rsp.status ≠ 0) :
    x.on s = answeredOnly s { status := x.rsp.status, tag := 0, d0 := 0, d1 := 0 } := by
  obtain ⟨htag, hd0, hd1⟩ := hx.response_legal.error_empty herr
  have hrsp : x.rsp = ⟨x.rsp.status, 0, 0, 0⟩ := by
    rw [← htag, ← hd0, ← hd1]
  calc x.on s
    _ = (Effect.answer s.fr x.rsp).on s := congrArg (·.on s) (hx.error_writes_nothing herr)
    _ = answeredOnly s x.rsp := rfl
    _ = answeredOnly s ⟨x.rsp.status, 0, 0, 0⟩ := congrArg (answeredOnly s) hrsp

/-! ### No step stops (R228, R256) -/

theorem exec_goes_on (i : Instr) (s : State) : ∃ t, exec i s = .next t := by
  obtain ⟨x, -, hx⟩ := exec_hasEffectOfFr i s.fr
  exact ⟨x.on s, hx s rfl⟩

/-- Each branch of a port cycle has a next state; the one that executes has the instruction's. -/
theorem step_goes_on (s : State) : ∃ t, step s = .next t := by
  cases hreset : (currentCycle s).reset with
  | true => exact ⟨_, step_reset hreset⟩
  | false =>
    cases hbusy : s.busy with
    | false =>
      cases hreq : (currentCycle s).reqValid with
      | true => exact ⟨_, step_accept hreset hbusy hreq⟩
      | false => exact ⟨_, step_idle hreset hbusy hreq⟩
    | true =>
      cases hvalid : s.rspValid with
      | true =>
        cases hready : (currentCycle s).rspReady with
        | true => exact ⟨_, step_handOff hreset hbusy hvalid hready⟩
        | false => exact ⟨_, step_hold hreset hbusy hvalid hready⟩
      | false =>
        cases hwait : (currentCycle s).wait with
        | true => exact ⟨_, step_wait hreset hbusy hvalid hwait⟩
        | false => exact step_execute hreset hbusy hvalid hwait ▸ exec_goes_on (decodeRequest s.req) (dropCycle s)

end Sys2Proof.Machine
end

section
/-! PROOFS. The statements about errors (60_exceptions.md). -/

namespace Sys2Proof.Proofs

open Sys2Proof.Machine

/-- Settles O40: a cause raises its error, a request with no cause answers OK, and the four statuses differ. -/
theorem errorStatusesHaveExactlyTheirCauses : Obligations.ErrorStatusesHaveExactlyTheirCauses := by
  intro r s t h
  exact ⟨status_eq_iff_errorCause h (st := .rangeError) nofun,
    status_eq_iff_errorCause h (st := .unknownCommand) nofun, status_eq_iff_errorCause h (st := .illegalOp) nofun⟩

/-- Settles O41: the effect of every instruction is legal, so with an error it is the response alone. -/
theorem errorsWriteNoState : Obligations.ErrorsWriteNoState := by
  intro i s t h herr
  obtain ⟨x, hx, rfl⟩ := effect_of_exec h
  exact hx.on_of_error herr

/-- Settles O43, by the branches of a port cycle. -/
theorem everyStepGoesOn : Obligations.EveryStepGoesOn := step_goes_on

/-- Settles O39: each reserved row raises the error, and a reserved op code is a cause of it whatever the
operands. -/
theorem reservedOpsAnswerIllegalOp : Obligations.ReservedOpsAnswerIllegalOp := by
  refine fun s r i => ⟨fun hi => ?row, fun hop => exec_decodeRequest_of_errorCause (st := .illegalOp) hop⟩
  case row =>
    rcases hi with rfl | rfl | rfl | rfl | rfl | rfl
    all_goals exact raiseError_eq .illegalOp s

end Sys2Proof.Proofs
end

section
/-! SUPPORT. Reset and hazards (70_reset_and_hazards.md): runs of a core that waits for LATENCY or for its host, and
the frame after reset. -/

namespace Sys2Proof.Machine

/-! ### The cycle to come (log 2) -/

/-- What holds of every listed cycle and of a quiet one holds of the cycle the outside drives now. -/
theorem currentCycle_of_forall {P : PortCycle → Prop} {s : State} (h : ∀ c ∈ s.inputs, P c)
    (hquiet : P PortCycle.quiet) : P (currentCycle s) := by
  rw [currentCycle]
  cases hin : s.inputs with
  | nil => exact hquiet
  | cons c cs => exact h c (hin ▸ List.mem_cons_self)

/-! ### Waiting for LATENCY, then execution (R258) -/

/-- The cycles the core needs lead to the effect of the latched request. -/
theorem run_wait_execute {s t : State} (hbusy : s.busy = true) (hvalid : s.rspValid = false)
    {working rest : List PortCycle} {c : PortCycle} (hin : s.inputs = working ++ c :: rest)
    (hworking : ∀ x ∈ working, x.reset = false ∧ x.wait = true) (hreset : c.reset = false) (hwait : c.wait = false)
    (hexec : exec (decodeRequest s.req) { s with inputs := rest } = .next t) :
    Sys2Proof.core.run (working.length + 1) s = .next t := by
  have hstep : step { s with inputs := c :: rest } = .next t :=
    (step_execute (s := { s with inputs := c :: rest }) hreset hbusy hvalid hwait).trans hexec
  calc Sys2Proof.core.run (working.length + 1) s
    _ = Sys2Proof.core.run (working.length + 1) { s with inputs := working ++ c :: rest } := by rw [← hin]
    _ = Sys2Proof.core.run 1 { s with inputs := c :: rest } :=
      run_add (run_wait_cycles hbusy hvalid _ (fun x hx => (hworking x hx).1) fun x hx => (hworking x hx).2) 1
    _ = .next t := run_step hstep 0

/-! ### A response that is never taken (R256) -/

/-- Each step holds the response: in a listed cycle, and in the quiet ones after the last. -/
theorem run_untaken (n : Nat) {s : State} (hbusy : s.busy = true) (hvalid : s.rspValid = true)
    (hin : ∀ c ∈ s.inputs, c.reset = false ∧ c.rspReady = false) :
    Sys2Proof.core.run n s = .next { s with inputs := s.inputs.drop n } := by
  induction n generalizing s with
  | zero => rfl
  | succ n ih =>
    obtain ⟨hreset, hready⟩ := currentCycle_of_forall hin ⟨rfl, rfl⟩
    calc Sys2Proof.core.run (n + 1) s
      _ = Sys2Proof.core.run n (dropCycle s) := run_step (step_hold hreset hbusy hvalid hready) n
      _ = .next { s with inputs := s.inputs.tail.drop n } :=
        ih (s := dropCycle s) hbusy hvalid fun c hc => hin c (List.mem_of_mem_tail hc)
      _ = .next { s with inputs := s.inputs.drop (n + 1) } := by rw [List.drop_tail]

/-! ### The frame after reset (R252) -/

theorem frameValid_zero : frameValid 0 :=
  (crcBits_zero 56).symm

end Sys2Proof.Machine
end

section
/-! PROOFS. The statements about reset and hazards (70_reset_and_hazards.md). -/

namespace Sys2Proof.Proofs

open Sys2Proof.Machine

/-- Settles O49: the waiting cycles (LATENCY, log 1) change nothing, and the effect of the latched request has a
response. -/
theorem acceptedRequestCompletes : Obligations.AcceptedRequestCompletes := by
  intro s working rest c hbusy hvalid hin hworking hreset hwait
  obtain ⟨x, -, hx⟩ := exec_hasEffectOfFr (decodeRequest s.req) s.fr
  have hexec := hx { s with inputs := rest } rfl
  exact ⟨_, run_wait_execute hbusy hvalid hin hworking hreset hwait hexec, rfl, hexec⟩

/-- Settles O50, by induction on the number of steps. -/
theorem untakenResponseLeavesTheCoreStuck : Obligations.UntakenResponseLeavesTheCoreStuck :=
  fun _ n hbusy hvalid hin => run_untaken n hbusy hvalid hin

/-- Settles O53, by the fields of the state after reset. -/
theorem resetStateIsAsTheTableSays : Obligations.ResetStateIsAsTheTableSays :=
  ⟨rfl, rfl, rfl, rfl, rfl, rfl, rfl, rfl, rfl, rfl⟩

/-- Settles O52: the core's state is that of the reset table, and the host's record stays. -/
theorem resetClearsTheCore : Obligations.ResetClearsTheCore := by
  intro s hreset
  obtain ⟨hfr, hcrcReg, hsrc, hidx, hbusy, hvalid, hstatus, htag, hd0, hd1⟩ := resetStateIsAsTheTableSays
  exact ⟨_, step_reset hreset, hfr, hcrcReg, hsrc, hidx, hbusy, hvalid, hstatus, htag, hd0, hd1, rfl⟩

/-- Settles O54: the frame 0 is valid, as the CRC of the payload 0 is 0, and it unpacks to MOVE 0. -/
theorem resetFrameIsAValidMove : Obligations.ResetFrameIsAValidMove :=
  ⟨⟨_, exec_decVerify_of_frameValid (s := State.reset) frameValid_zero, rfl⟩,
    exec_decParams_of_fields (s := State.reset) (k := 0) rfl (v := .move 0) rfl rfl rfl⟩

/-- Settles O56: no response stands, none was taken, and the engine is idle. -/
theorem resetMeetsTheInvariant : Obligations.ResetMeetsTheInvariant where
  valid_busy := nofun
  engine_idle := rfl
  response_legal := nofun
  taken_legal := nofun

end Sys2Proof.Proofs
end
